-- ==== Sys2Proof/Word.lean ====
section
/-! DEFINITION. The two widths of the SM83: bytes and 16-bit words (00_scope.md R7, R8). -/

namespace Sys2Proof

/-- An 8-bit value: a register, a bus byte, an immediate n8, a8 or e8 (R7). -/
abbrev Byte := BitVec 8

/-- A 16-bit value: SP, PC, a register pair, an address, an immediate n16 or a16 (R7). -/
abbrev Word := BitVec 16

end Sys2Proof
end

