-- ==== Sys2Proof/Config.lean ====
section
/-! DEFINITION. What a machine is built with: the parameters of 00_scope.md R7 and their defaults, and the one choice
about the platform's memory (log entry 1). No instruction's meaning stands here. -/

namespace Sys2Proof

/-- The parameter STOP_LENGTH, in {1, 2} (R7; 49_system.md R282; 92_eei_decisions.md D6). -/
inductive StopLength where
  | one
  | two
deriving DecidableEq, Repr

namespace Config

/-- "default 2" (R7, D6). -/
def stopLengthDefault : StopLength := .two

/-- What an address reads as when the memory lists nothing for it. DESIGN CHOICE (log entry 1): the spec leaves every
byte to the bus (20_memory.md R52); 0x00 is the choice 95_test_vectors.md makes for its programs. -/
def unlistedByte : Byte := 0x00

end Config

/-- The parameter INITIAL_STATE: the registers the core is constructed with (R7; 70_reset_and_hazards.md R340). -/
structure InitialState where
  a : Byte
  f : Byte
  b : Byte
  c : Byte
  d : Byte
  e : Byte
  h : Byte
  l : Byte
  sp : Word
  pc : Word
deriving DecidableEq, Repr

/-- The harness default: "all 8-bit registers and F cleared to 0, PC set to 0x0100, SP set to 0x0000"
(10_state.md R39, R340). -/
def InitialState.harness : InitialState :=
  { a := 0x00, f := 0x00, b := 0x00, c := 0x00, d := 0x00, e := 0x00, h := 0x00, l := 0x00,
    sp := 0x0000, pc := 0x0100 }

end Sys2Proof
end

