-- ==== Sys2Proof/Machine/Bits.lean ====
section
/-! DEFINITION. Bit-field, byte-order and sign-extension helpers (00_scope.md R8; 30_encoding.md R81), and the length of what STOP skips. -/

namespace Sys2Proof

/-- `hi:lo`, the 16-bit value `hi * 256 + lo` (R8). -/
def ofBytes (hi lo : Byte) : Word := hi.setWidth 16 <<< 8 ||| lo.setWidth 16

/-- `v[15:8]`. -/
def hiByte (v : Word) : Byte := v.extractLsb' 8 8

/-- `v[7:0]`. -/
def loByte (v : Word) : Byte := v.extractLsb' 0 8

/-- `sext_16`: bit 7 copied into bits 15 to 8 (R8). -/
def sext16 (v : Byte) : Word := v.signExtend 16

/-- `zext_16`: widened with zeros (R8). -/
def zext16 (v : Byte) : Word := v.setWidth 16

/-- `v & 0xF` as a number. -/
def lowNibble (v : Byte) : Nat := v.toNat % 16

/-- Field x, bits 7-6 of an opcode byte (R81). -/
def fieldX (op : Byte) : Nat := op.toNat / 64

/-- Field y, bits 5-3 (R81). -/
def fieldY (op : Byte) : Nat := op.toNat / 8 % 8

/-- Field z, bits 2-0 (R81). -/
def fieldZ (op : Byte) : Nat := op.toNat % 8

/-- Field p, bits 5-4, y >> 1 (R81). -/
def fieldP (op : Byte) : Nat := op.toNat / 16 % 4

/-- Field q, bit 3, y & 1 (R81). -/
def fieldQ (op : Byte) : Nat := op.toNat / 8 % 2

/-- How many bytes STOP skips after its opcode: none when STOP_LENGTH = 1, one when it is 2 (49_system.md R282). -/
def stopSkip : StopLength → Nat
  | .one => 0
  | .two => 1

end Sys2Proof
end

