-- ==== Sys2Proof/Machine/State.lean ====
section
/-! DEFINITION. The state of the core (10_state.md R20, R36), the inputs and outputs of one Step (60_exceptions.md R301),
the reasons a step can stop, and the state at construction (70_reset_and_hazards.md R340). Plain data throughout. -/

namespace Sys2Proof.Machine

/-- The eight 8-bit registers (10_state.md R21). -/
inductive Reg8 where
  | a | f | b | c | d | e | h | l
deriving DecidableEq, Repr

/-- The register pairs, views of the 8-bit registers (R22). -/
inductive RegPair where
  | af | bc | de | hl
deriving DecidableEq, Repr

/-- The four flags, bits 7, 6, 5 and 4 of F (R25). -/
inductive Flag where
  | z | n | h | c
deriving DecidableEq, Repr

/-- The error results of a Step (60_exceptions.md R313). UnimplementedBehavior is never produced (R311). -/
inductive CoreError where
  | undefinedOpcode (opcode : Byte) (address : Word)
  | unimplementedBehavior (opcode : List Byte) (address : Word)
deriving DecidableEq, Repr

/-- The five interrupt sources, numbered 0 to 4 in this order (R302). -/
inductive Interrupt where
  | vblank | lcdStat | timer | serial | joypad
deriving DecidableEq, Repr

/-- One call on the bus, with the byte read or written (20_memory.md R51, R54). -/
inductive BusEvent where
  | read (address : Word) (value : Byte)
  | write (address : Word) (value : Byte)
deriving DecidableEq, Repr

/-- What the outside world gives one Step: IRQ and WAKE (R301), the bytes of memory that the platform has changed since
the Step before, and the bus's own answers to the Step's reads, the first read's first: "any u8 the bus returns", two reads
of one address among them (20_memory.md R52, R58, D11; log entries 2 and 3). Absent inputs are 0 or empty. -/
structure StepInput where
  irq : BitVec 5 := 0
  wake : Bool := false
  platform : List (Word × Byte) := []
  answers : List Byte := []
deriving DecidableEq, Repr

/-- The bytes memory holds, as address and byte pairs: addresses strictly rising, none equal to
`Config.unlistedByte`. -/
abbrev Memory := List Host.Cell

/-- The canonical form of a memory whose addresses all lie at or above `lo`. -/
def Memory.wfFrom : Nat → Memory → Bool
  | _, [] => true
  | lo, (k, v) :: rest =>
    decide (lo ≤ k) && decide (k < 65536) && decide (v ≠ Config.unlistedByte) && Memory.wfFrom (k + 1) rest

/-- The canonical form: strictly rising addresses below 65,536 (20_memory.md R50), no entry that says what an unlisted
address reads as anyway. -/
def Memory.wf (m : Memory) : Bool := Memory.wfFrom 0 m

/-- The core and its interface. The first sixteen fields are R20's table; the next is the construction parameter
STOP_LENGTH; the rest is the interface of R301 and R37, held as data (log entries 2 to 5). -/
structure State where
  /-- A, the accumulator (R21). -/
  a : Byte
  /-- F, the flags; bits 3-0 are written 0 and read 0 by the accessors (R23, R25). -/
  f : Byte
  b : Byte
  c : Byte
  d : Byte
  e : Byte
  h : Byte
  l : Byte
  /-- SP, the stack pointer (R24). -/
  sp : Word
  /-- PC, the program counter (R28). -/
  pc : Word
  /-- IME, the interrupt master enable (R29). -/
  ime : Bool
  /-- ime_pending, an EI whose enable is not yet in effect (R30). -/
  imePending : Bool
  /-- halted (R32). -/
  halted : Bool
  /-- stopped (R33). -/
  stopped : Bool
  /-- halt_bug: the next opcode fetch will not advance PC (R34). -/
  haltBug : Bool
  /-- locked with its saved error: `none` is locked = 0, `some e` is locked = 1 with saved error e (R35). -/
  locked : Option CoreError
  /-- STOP_LENGTH, fixed at construction (R7, D6). -/
  stopLength : StopLength
  /-- What a read answers where the bus gives the Step no answer of its own (R50 to R52; log entry 2). -/
  mem : Memory
  /-- The inputs of the coming Steps, oldest first; with none left, IRQ = 0, WAKE = 0 and no change (R301). -/
  inputs : List StepInput
  /-- IRQ as sampled at the current Step's start (R301). -/
  irq : BitVec 5
  /-- WAKE as sampled at the current Step's start (R301). -/
  wake : Bool
  /-- The bus's own answers to the reads that the current Step has still to make, the first read's first (R52, D11). -/
  answers : List Byte
  /-- The Step's cycle accumulator; after the Step, the count it returned (R36, R348). -/
  cycles : Nat
  /-- The Step's output `ack` (R301, R306). -/
  ack : Option Interrupt
  /-- The Step's bus calls, oldest first (R54, R56, R58). -/
  bus : List BusEvent
deriving DecidableEq, Repr

/-- Why a step stops. -/
inductive Fault where
  /-- Raised by `step` alone, at a locked core: "every later Step returns the same saved error without touching the
  bus or any state" (60_exceptions.md R312). Safe: the spec gives the Step no other effect. -/
  | locked (error : CoreError)
deriving DecidableEq, Repr

/-- Why the model declines. -/
inductive Refusal where
  /-- Raised by `exec` for an instruction that has no meaning yet; no arm of exec raises it. Safe. -/
  | notModelled (mnemonic : String)
deriving DecidableEq, Repr

/-- Construction (R340): the registers from INITIAL_STATE with F masked (R23, D14), every one-bit field 0 (D13). The
interface fields hold nothing before the first Step (log entry 4). -/
def State.construct (init : InitialState) (stopLength : StopLength) : State :=
  { a := init.a, f := init.f &&& 0xF0, b := init.b, c := init.c, d := init.d, e := init.e, h := init.h, l := init.l,
    sp := init.sp, pc := init.pc,
    ime := false, imePending := false, halted := false, stopped := false, haltBug := false, locked := none,
    stopLength := stopLength, mem := [], inputs := [], irq := 0, wake := false,
    answers := [], cycles := 0, ack := none, bus := [] }

/-- The core right after construction with the default parameters (R39, R340). -/
def State.reset : State := State.construct InitialState.harness Config.stopLengthDefault

end Sys2Proof.Machine
end

