-- ==== Sys2Proof/Machine/Ops.lean ====
section
/-! DEFINITION. The named operations over memory, registers, the stack and the instruction stream, and the two ways the
core leaves the normal flow: interrupt entry and UndefinedOpcode (20_memory.md, 10_state.md, 48_stack.md,
60_exceptions.md). -/

namespace Sys2Proof.Machine

/-! ## Memory -/

/-- The byte at an address. -/
def Memory.read : Memory → Nat → Byte
  | [], _ => Config.unlistedByte
  | (k, v) :: rest, a => if k = a then v else Memory.read rest a

/-- Drops what is listed for an address. -/
def Memory.erase : Memory → Nat → Memory
  | [], _ => []
  | (k, x) :: rest, a => if k = a then Memory.erase rest a else (k, x) :: Memory.erase rest a

/-- Lists a byte for an address, at its place in the order. -/
def Memory.insert : Memory → Nat → Byte → Memory
  | [], a, v => [(a, v)]
  | (k, x) :: rest, a, v =>
    if a < k then (a, v) :: (k, x) :: rest
    else if a = k then (a, v) :: rest
    else (k, x) :: Memory.insert rest a v

/-- Stores a byte: writing what an unlisted address reads as removes the entry, so the canonical form is kept. -/
def Memory.write (m : Memory) (a : Nat) (v : Byte) : Memory :=
  if v = Config.unlistedByte then m.erase a else m.insert a v

/-- Stores a list of bytes, the first first. -/
def Memory.writeAll : Memory → List (Word × Byte) → Memory
  | m, [] => m
  | m, (a, v) :: rest => Memory.writeAll (m.write a.toNat v) rest

/-- What memory holds at an address; no bus call. -/
def State.byteAt (s : State) (addr : Word) : Byte := s.mem.read addr.toNat

/-- What the bus answers to a read of `addr` that `k` other reads come before: its own answer to that read, any byte at
all, and where it gives none the byte memory holds (20_memory.md R52, D11; log entry 2). No bus call. -/
def State.answer (s : State) (k : Nat) (addr : Word) : Byte := (s.answers.drop k).headD (s.byteAt addr)

/-- `MemRead(addr, 1)`: one call `read8(addr)`, which takes one answer of the bus. The next read of the same address takes
the next answer: "An address is idempotent or not as the bus decides" (00_scope.md R9; 20_memory.md R58). -/
def State.memRead (s : State) (addr : Word) : Byte × State :=
  (s.answer 0 addr, { s with answers := s.answers.drop 1, bus := s.bus ++ [.read addr (s.answer 0 addr)] })

/-- `MemWrite(addr, 1, v)`: one call `write8(addr, v)` (R9). -/
def State.memWrite (s : State) (addr : Word) (v : Byte) : State :=
  { s with mem := s.mem.write addr.toNat v, bus := s.bus ++ [.write addr v] }

/-! ## Registers (10_state.md R21, R22, R23) -/

/-- `get8`; F's low nibble reads 0 (R23). -/
def State.get8 (s : State) : Reg8 → Byte
  | .a => s.a
  | .f => s.f &&& 0xF0
  | .b => s.b
  | .c => s.c
  | .d => s.d
  | .e => s.e
  | .h => s.h
  | .l => s.l

/-- `set8`; "Every write to F stores `v & 0xF0`" (R23). -/
def State.set8 (s : State) (r : Reg8) (v : Byte) : State :=
  match r with
  | .a => { s with a := v }
  | .f => { s with f := v &&& 0xF0 }
  | .b => { s with b := v }
  | .c => { s with c := v }
  | .d => { s with d := v }
  | .e => { s with e := v }
  | .h => { s with h := v }
  | .l => { s with l := v }

/-- The first-named register of a pair, its bits 15-8 (R22). -/
def RegPair.high : RegPair → Reg8
  | .af => .a
  | .bc => .b
  | .de => .d
  | .hl => .h

/-- The second-named register of a pair, its bits 7-0 (R22). -/
def RegPair.low : RegPair → Reg8
  | .af => .f
  | .bc => .c
  | .de => .e
  | .hl => .l

/-- `get16`, `pair(p)` (R22). -/
def State.get16 (s : State) (p : RegPair) : Word := ofBytes (s.get8 p.high) (s.get8 p.low)

/-- `set16`, `pair(p) <- v` (R22). -/
def State.set16 (s : State) (p : RegPair) (v : Word) : State := (s.set8 p.high (hiByte v)).set8 p.low (loByte v)

/-! ## The instruction stream (R9) -/

/-- `FetchImm8()`. -/
def State.fetchImm8 (s : State) : Byte × State :=
  let (v, s1) := s.memRead s.pc
  (v, { s1 with pc := s1.pc + 1 })

/-- The opcode fetch of 60_exceptions.md R300 step 6: with halt_bug = 1, PC is not advanced and the bit is cleared
(10_state.md R34). -/
def State.fetchOpcode (s : State) : Byte × State :=
  let (op, s1) := s.memRead s.pc
  (op, if s1.haltBug then { s1 with haltBug := false } else { s1 with pc := s1.pc + 1 })

/-! ## The stack (48_stack.md R270) -/

/-- `Push16(v)`: the high byte first, at the higher address. -/
def State.push16 (s : State) (v : Word) : State :=
  let s1 := { s with sp := s.sp - 1 }
  let s2 := s1.memWrite s1.sp (hiByte v)
  let s3 := { s2 with sp := s2.sp - 1 }
  s3.memWrite s3.sp (loByte v)

/-- `Pop16()`: the low byte first. -/
def State.pop16 (s : State) : Word × State :=
  let (lo, s1) := s.memRead s.sp
  let s2 := { s1 with sp := s1.sp + 1 }
  let (hi, s3) := s2.memRead s2.sp
  (ofBytes hi lo, { s3 with sp := s3.sp + 1 })

/-! ## The end of an instruction -/

/-- An instruction ends: "cycles <- d's total" (R300 step 9). -/
def State.done (s : State) (total : Nat) : Host.Outcome State Fault Refusal := .next { s with cycles := total }

/-! ## Interrupts (60_exceptions.md R302 to R306) -/

/-- The number of an interrupt source (R302). -/
def Interrupt.number : Interrupt → Nat
  | .vblank => 0
  | .lcdStat => 1
  | .timer => 2
  | .serial => 3
  | .joypad => 4

/-- "the index of the lowest set bit of IRQ" (R303, R304); none when IRQ = 0. -/
def lowestRequest (irq : BitVec 5) : Option Interrupt :=
  if irq.getLsbD 0 then some .vblank
  else if irq.getLsbD 1 then some .lcdStat
  else if irq.getLsbD 2 then some .timer
  else if irq.getLsbD 3 then some .serial
  else if irq.getLsbD 4 then some .joypad
  else none

/-- "PC <- 0x0040 + 8 * n" (R303, R305). -/
def Interrupt.vector (n : Interrupt) : Word := BitVec.ofNat 16 (0x0040 + 8 * n.number)

/-- `InterruptEntry(IRQ)` for the interrupt n chosen (R303): IME and ime_pending cleared, the return address pushed
(PC - 1 where halt_bug = 1, which is then cleared), PC at the vector, `ack` = n, 20 cycles (R349). The return from it is
RETI's meaning (R308; 46_control.md R220). -/
def State.interruptEntry (s : State) (n : Interrupt) : State :=
  let ret := if s.haltBug then s.pc - 1 else s.pc
  let s1 := { s with ime := false, imePending := false, haltBug := false }
  let s2 := s1.push16 ret
  { s2 with pc := n.vector, ack := some n, cycles := 20 }

/-! ## Errors (60_exceptions.md R310, R313) -/

/-- The numeric codes (R313; 92_eei_decisions.md D8). -/
def CoreError.code : CoreError → Nat
  | .undefinedOpcode _ _ => 1
  | .unimplementedBehavior _ _ => 2

/-- `raise UndefinedOpcode(op, PC)` on the state restored to before the Step, whose PC is the opcode's address (R286,
R310): locked is set with the saved error and nothing else changes. -/
def State.raiseUndefined (s : State) (op : Byte) : State := { s with locked := some (.undefinedOpcode op s.pc) }

/-- What the Step returned: `Ok(cycles)` or `Err(error)` (R301). -/
def State.result (s : State) : Except CoreError Nat :=
  match s.locked with
  | some e => .error e
  | none => .ok s.cycles

end Sys2Proof.Machine
end

