-- ==== Sys2Proof/Machine/Flags.lean ====
section
/-! DEFINITION. The flags and every flag computation of the spec (10_state.md R25, R26, R27, R31; 42_arithmetic.md,
43_logical.md, 44_compare.md, 45_incdec.md, 47_bit.md). -/

namespace Sys2Proof.Machine

/-- The four flags of F (R25). -/
structure Flags where
  z : Bool
  n : Bool
  h : Bool
  c : Bool
deriving DecidableEq, Repr

/-- F as a byte: Z bit 7, N bit 6, H bit 5, C bit 4, bits 3-0 zero (R25). -/
def Flags.toByte (f : Flags) : Byte :=
  (if f.z then 0x80 else 0) ||| (if f.n then 0x40 else 0) ||| (if f.h then 0x20 else 0) ||| (if f.c then 0x10 else 0)

/-- The bit of F that holds a flag (R25). -/
def Flag.bit : Flag → Nat
  | .z => 7
  | .n => 6
  | .h => 5
  | .c => 4

/-- `get_flag` (R21). -/
def State.getFlag (s : State) (fl : Flag) : Bool := s.f.getLsbD fl.bit

/-- The four flags together. -/
def State.flags (s : State) : Flags :=
  { z := s.getFlag .z, n := s.getFlag .n, h := s.getFlag .h, c := s.getFlag .c }

/-- `flags(z, n, h, c)` (00_scope.md R9); a flag left unchanged is passed from `State.flags`. -/
def State.setFlags (s : State) (f : Flags) : State := { s with f := f.toByte }

/-- `set_flag` (R21). -/
def State.setFlag (s : State) (fl : Flag) (v : Bool) : State :=
  s.setFlags (match fl with
    | .z => { s.flags with z := v }
    | .n => { s.flags with n := v }
    | .h => { s.flags with h := v }
    | .c => { s.flags with c := v })

/-- `cond(cc)` (R31). -/
def State.cond (s : State) : Cc → Bool
  | .nz => !s.getFlag .z
  | .z => s.getFlag .z
  | .nc => !s.getFlag .c
  | .c => s.getFlag .c

/-- An 8-bit result with the flags it leaves. -/
structure Res8 where
  value : Byte
  flags : Flags
deriving DecidableEq, Repr

/-- The eight ALU operations on A, X and the carry (R141 to R144, R160 to R162, R180). For CP the value is the discarded
difference. -/
def alu (op : AluOp) (a x : Byte) (c : Bool) : Res8 :=
  match op with
  | .add =>
    let s := a.toNat + x.toNat
    let v := BitVec.ofNat 8 s
    ⟨v, { z := v == 0, n := false, h := decide (lowNibble a + lowNibble x ≥ 0x10), c := decide (s > 0xFF) }⟩
  | .adc =>
    let s := a.toNat + x.toNat + c.toNat
    let v := BitVec.ofNat 8 s
    ⟨v, { z := v == 0, n := false, h := decide (lowNibble a + lowNibble x + c.toNat ≥ 0x10), c := decide (s > 0xFF) }⟩
  | .sub =>
    let v := a - x
    ⟨v, { z := v == 0, n := true, h := decide (lowNibble a < lowNibble x), c := decide (a.toNat < x.toNat) }⟩
  | .sbc =>
    let v := a - x - BitVec.ofNat 8 c.toNat
    ⟨v, { z := v == 0, n := true, h := decide (lowNibble a < lowNibble x + c.toNat),
          c := decide (a.toNat < x.toNat + c.toNat) }⟩
  | .and =>
    let v := a &&& x
    ⟨v, { z := v == 0, n := false, h := true, c := false }⟩
  | .xor =>
    let v := a ^^^ x
    ⟨v, { z := v == 0, n := false, h := false, c := false }⟩
  | .or =>
    let v := a ||| x
    ⟨v, { z := v == 0, n := false, h := false, c := false }⟩
  | .cp =>
    ⟨a - x, { z := a == x, n := true, h := decide (lowNibble a < lowNibble x), c := decide (a.toNat < x.toNat) }⟩

/-- INC on a byte; C is kept (R190). -/
def inc8 (v : Byte) (old : Flags) : Res8 :=
  ⟨v + 1, { z := v + 1 == 0, n := false, h := decide (lowNibble v = 0xF), c := old.c }⟩

/-- DEC on a byte; C is kept (R191). -/
def dec8 (v : Byte) (old : Flags) : Res8 :=
  ⟨v - 1, { z := v - 1 == 0, n := true, h := decide (lowNibble v = 0x0), c := old.c }⟩

/-- The flags of ADD HL,rr; Z is kept (R146). -/
def addHlFlags (hl v : Word) (old : Flags) : Flags :=
  { z := old.z, n := false, h := decide (hl.toNat % 4096 + v.toNat % 4096 > 0xFFF), c := decide (hl.toNat + v.toNat > 0xFFFF) }

/-- The flags of ADD SP,e8 and LD HL,SP+e8: the unsigned low-byte add (R145, R131, R26). -/
def spDispFlags (sp : Word) (u : Byte) : Flags :=
  { z := false, n := false, h := decide (sp.toNat % 16 + lowNibble u > 0xF), c := decide (sp.toNat % 256 + u.toNat > 0xFF) }

/-- DAA (R147). -/
def daa (a : Byte) (old : Flags) : Res8 :=
  let (v, c) :=
    if !old.n then
      let (v, c) := if old.c || decide (a.toNat > 0x99) then (a + 0x60, true) else (a, old.c)
      (if old.h || decide (lowNibble v > 0x09) then v + 0x06 else v, c)
    else
      let v := if old.c then a - 0x60 else a
      (if old.h then v - 0x06 else v, old.c)
  ⟨v, { z := v == 0, n := old.n, h := false, c := c }⟩

/-- A flag as a bit of a byte, at bit 0. -/
def bitByte (b : Bool) : Byte := if b then 1 else 0

/-- The result and the carry out of a rotate, shift or swap (R245 to R252). -/
def rotate (op : RotOp) (v : Byte) (c : Bool) : Byte × Bool :=
  match op with
  | .rlc => (v <<< 1 ||| bitByte (v.getLsbD 7), v.getLsbD 7)
  | .rrc => (v >>> 1 ||| bitByte (v.getLsbD 0) <<< 7, v.getLsbD 0)
  | .rl => (v <<< 1 ||| bitByte c, v.getLsbD 7)
  | .rr => (v >>> 1 ||| bitByte c <<< 7, v.getLsbD 0)
  | .sla => (v <<< 1, v.getLsbD 7)
  | .sra => (v >>> 1 ||| (v &&& 0x80), v.getLsbD 0)
  | .swap => (v <<< 4 ||| v >>> 4, false)
  | .srl => (v >>> 1, v.getLsbD 0)

/-- The flags of a CB rotate, shift or swap (R245 to R252). -/
def rotFlags (res : Byte) (carry : Bool) : Flags := { z := res == 0, n := false, h := false, c := carry }

/-- The flags of RLCA, RRCA, RLA and RRA: Z is always 0 (R240 to R243). -/
def rotAFlags (carry : Bool) : Flags := { z := false, n := false, h := false, c := carry }

/-- The flags of BIT b; C is kept (R253). -/
def bitFlags (v : Byte) (b : Fin 8) (old : Flags) : Flags := { z := !v.getLsbD b, n := false, h := true, c := old.c }

end Sys2Proof.Machine
end

