-- ==== Sys2Proof/Machine/Operands.lean ====
section
/-! DEFINITION. Every operand form of the spec (30_encoding.md R83, R84, R90; 42_arithmetic.md R140; 47_bit.md R244). -/

namespace Sys2Proof.Machine

/-- The register an r8 selector names; selector 6 names the byte at HL, no register (R83). -/
def regOf : R8 → Option Reg8
  | .b => some .b
  | .c => some .c
  | .d => some .d
  | .e => some .e
  | .h => some .h
  | .l => some .l
  | .mhl => none
  | .a => some .a

/-- Reads an r8 operand: `reg8[r]`, or one `MemRead(pair(HL), 1)` (R83). -/
def State.readR8 (s : State) (r : R8) : Byte × State :=
  match regOf r with
  | some x => (s.get8 x, s)
  | none => s.memRead (s.get16 .hl)

/-- Writes an r8 operand: `reg8[r] <- v`, or one `MemWrite(pair(HL), 1, v)` (R83). -/
def State.writeR8 (s : State) (r : R8) (v : Byte) : State :=
  match regOf r with
  | some x => s.set8 x v
  | none => s.memWrite (s.get16 .hl) v

/-- The ALU operand X: an r8 operand or the immediate byte already fetched (R140). -/
inductive AluSrc where
  | r8 (r : R8)
  | n8 (v : Byte)
deriving DecidableEq, Repr

/-- Reads X once, before the operation (R140). -/
def State.readSrc (s : State) : AluSrc → Byte × State
  | .r8 r => s.readR8 r
  | .n8 v => (v, s)

/-- The pair an r16 selector names; selector 3 is SP, no pair (R83). -/
def pairOf : R16 → Option RegPair
  | .bc => some .bc
  | .de => some .de
  | .hl => some .hl
  | .sp => none

/-- `pair(p)`, or SP (R83). -/
def State.getR16 (s : State) (p : R16) : Word :=
  match pairOf p with
  | some q => s.get16 q
  | none => s.sp

/-- `pair(p) <- v`, or `SP <- v` (R83). -/
def State.setR16 (s : State) (p : R16) (v : Word) : State :=
  match pairOf p with
  | some q => s.set16 q v
  | none => { s with sp := v }

/-- The pair an r16stk selector names (R83). -/
def stkPair : R16Stk → RegPair
  | .bc => .bc
  | .de => .de
  | .hl => .hl
  | .af => .af

/-- The address an r16mem operand names: the pointing pair before any increment or decrement (R83, R90). -/
def State.memAddr (s : State) : R16Mem → Word
  | .bc => s.get16 .bc
  | .de => s.get16 .de
  | .hli => s.get16 .hl
  | .hld => s.get16 .hl

/-- The pointer update after an r16mem access at `addr`: HL + 1 or HL - 1, mod 65536, for the two HL forms (R90). -/
def State.movePointer (s : State) (m : R16Mem) (addr : Word) : State :=
  match m with
  | .bc => s
  | .de => s
  | .hli => s.set16 .hl (addr + 1)
  | .hld => s.set16 .hl (addr - 1)

/-- The high-page address `0xFF00 + offset` (R84, R90; 20_memory.md R59). -/
def highPage (off : Byte) : Word := 0xFF00 + zext16 off

/-- The restart address `t * 8` (R83; 46_control.md R221). -/
def rstTarget (t : Fin 8) : Word := BitVec.ofNat 16 (t.val * 8)

end Sys2Proof.Machine
end

