-- ==== Sys2Proof/Machine/Arith.lean ====
section
/-! DEFINITION. Arithmetic instructions (42_arithmetic.md): the shared operations, then one meaning per instruction with its row's cycle total. -/

namespace Sys2Proof.Machine

/-- An ALU operation on A and X whose value goes to A (R140 to R144, R160 to R162). -/
def aluA (op : AluOp) (src : AluSrc) (total : Nat) (s : State) : Host.Outcome State Fault Refusal :=
  let (x, s1) := s.readSrc src
  let r := alu op s1.a x (s1.getFlag .c)
  ((s1.set8 .a r.value).setFlags r.flags).done total

/-- ADD HL,rr (R146). -/
def addHl (p : R16) (total : Nat) (s : State) : Host.Outcome State Fault Refusal :=
  let hl := s.get16 .hl
  let v := s.getR16 p
  ((s.set16 .hl (hl + v)).setFlags (addHlFlags hl v s.flags)).done total

/-- `ADD HL,BC`, 09 (R146). -/
def exec_add_hl_bc (s : State) : Host.Outcome State Fault Refusal :=
  addHl .bc 8 s

/-- `ADD HL,DE`, 19 (R146). -/
def exec_add_hl_de (s : State) : Host.Outcome State Fault Refusal :=
  addHl .de 8 s

/-- `DAA`, 27 (R147). -/
def exec_daa (s : State) : Host.Outcome State Fault Refusal :=
  let r := daa s.a s.flags
  ((s.set8 .a r.value).setFlags r.flags).done 4

/-- `ADD HL,HL`, 29 (R146). -/
def exec_add_hl_hl (s : State) : Host.Outcome State Fault Refusal :=
  addHl .hl 8 s

/-- `ADD HL,SP`, 39 (R146). -/
def exec_add_hl_sp (s : State) : Host.Outcome State Fault Refusal :=
  addHl .sp 8 s

/-- `ADD A,B`, 80 (R141). -/
def exec_add_a_b (s : State) : Host.Outcome State Fault Refusal :=
  aluA .add (.r8 .b) 4 s

/-- `ADD A,C`, 81 (R141). -/
def exec_add_a_c (s : State) : Host.Outcome State Fault Refusal :=
  aluA .add (.r8 .c) 4 s

/-- `ADD A,D`, 82 (R141). -/
def exec_add_a_d (s : State) : Host.Outcome State Fault Refusal :=
  aluA .add (.r8 .d) 4 s

/-- `ADD A,E`, 83 (R141). -/
def exec_add_a_e (s : State) : Host.Outcome State Fault Refusal :=
  aluA .add (.r8 .e) 4 s

/-- `ADD A,H`, 84 (R141). -/
def exec_add_a_h (s : State) : Host.Outcome State Fault Refusal :=
  aluA .add (.r8 .h) 4 s

/-- `ADD A,L`, 85 (R141). -/
def exec_add_a_l (s : State) : Host.Outcome State Fault Refusal :=
  aluA .add (.r8 .l) 4 s

/-- `ADD A,(HL)`, 86 (R141). -/
def exec_add_a_mhl (s : State) : Host.Outcome State Fault Refusal :=
  aluA .add (.r8 .mhl) 8 s

/-- `ADD A,A`, 87 (R141). -/
def exec_add_a_a (s : State) : Host.Outcome State Fault Refusal :=
  aluA .add (.r8 .a) 4 s

/-- `ADC A,B`, 88 (R142). -/
def exec_adc_a_b (s : State) : Host.Outcome State Fault Refusal :=
  aluA .adc (.r8 .b) 4 s

/-- `ADC A,C`, 89 (R142). -/
def exec_adc_a_c (s : State) : Host.Outcome State Fault Refusal :=
  aluA .adc (.r8 .c) 4 s

/-- `ADC A,D`, 8A (R142). -/
def exec_adc_a_d (s : State) : Host.Outcome State Fault Refusal :=
  aluA .adc (.r8 .d) 4 s

/-- `ADC A,E`, 8B (R142). -/
def exec_adc_a_e (s : State) : Host.Outcome State Fault Refusal :=
  aluA .adc (.r8 .e) 4 s

/-- `ADC A,H`, 8C (R142). -/
def exec_adc_a_h (s : State) : Host.Outcome State Fault Refusal :=
  aluA .adc (.r8 .h) 4 s

/-- `ADC A,L`, 8D (R142). -/
def exec_adc_a_l (s : State) : Host.Outcome State Fault Refusal :=
  aluA .adc (.r8 .l) 4 s

/-- `ADC A,(HL)`, 8E (R142). -/
def exec_adc_a_mhl (s : State) : Host.Outcome State Fault Refusal :=
  aluA .adc (.r8 .mhl) 8 s

/-- `ADC A,A`, 8F (R142). -/
def exec_adc_a_a (s : State) : Host.Outcome State Fault Refusal :=
  aluA .adc (.r8 .a) 4 s

/-- `SUB B`, 90 (R143). -/
def exec_sub_b (s : State) : Host.Outcome State Fault Refusal :=
  aluA .sub (.r8 .b) 4 s

/-- `SUB C`, 91 (R143). -/
def exec_sub_c (s : State) : Host.Outcome State Fault Refusal :=
  aluA .sub (.r8 .c) 4 s

/-- `SUB D`, 92 (R143). -/
def exec_sub_d (s : State) : Host.Outcome State Fault Refusal :=
  aluA .sub (.r8 .d) 4 s

/-- `SUB E`, 93 (R143). -/
def exec_sub_e (s : State) : Host.Outcome State Fault Refusal :=
  aluA .sub (.r8 .e) 4 s

/-- `SUB H`, 94 (R143). -/
def exec_sub_h (s : State) : Host.Outcome State Fault Refusal :=
  aluA .sub (.r8 .h) 4 s

/-- `SUB L`, 95 (R143). -/
def exec_sub_l (s : State) : Host.Outcome State Fault Refusal :=
  aluA .sub (.r8 .l) 4 s

/-- `SUB (HL)`, 96 (R143). -/
def exec_sub_mhl (s : State) : Host.Outcome State Fault Refusal :=
  aluA .sub (.r8 .mhl) 8 s

/-- `SUB A`, 97 (R143). -/
def exec_sub_a (s : State) : Host.Outcome State Fault Refusal :=
  aluA .sub (.r8 .a) 4 s

/-- `SBC A,B`, 98 (R144). -/
def exec_sbc_a_b (s : State) : Host.Outcome State Fault Refusal :=
  aluA .sbc (.r8 .b) 4 s

/-- `SBC A,C`, 99 (R144). -/
def exec_sbc_a_c (s : State) : Host.Outcome State Fault Refusal :=
  aluA .sbc (.r8 .c) 4 s

/-- `SBC A,D`, 9A (R144). -/
def exec_sbc_a_d (s : State) : Host.Outcome State Fault Refusal :=
  aluA .sbc (.r8 .d) 4 s

/-- `SBC A,E`, 9B (R144). -/
def exec_sbc_a_e (s : State) : Host.Outcome State Fault Refusal :=
  aluA .sbc (.r8 .e) 4 s

/-- `SBC A,H`, 9C (R144). -/
def exec_sbc_a_h (s : State) : Host.Outcome State Fault Refusal :=
  aluA .sbc (.r8 .h) 4 s

/-- `SBC A,L`, 9D (R144). -/
def exec_sbc_a_l (s : State) : Host.Outcome State Fault Refusal :=
  aluA .sbc (.r8 .l) 4 s

/-- `SBC A,(HL)`, 9E (R144). -/
def exec_sbc_a_mhl (s : State) : Host.Outcome State Fault Refusal :=
  aluA .sbc (.r8 .mhl) 8 s

/-- `SBC A,A`, 9F (R144). -/
def exec_sbc_a_a (s : State) : Host.Outcome State Fault Refusal :=
  aluA .sbc (.r8 .a) 4 s

/-- `ADD A,n8`, C6 (R141). -/
def exec_add_a_n8 (n8 : Byte) (s : State) : Host.Outcome State Fault Refusal :=
  aluA .add (.n8 n8) 8 s

/-- `ADC A,n8`, CE (R142). -/
def exec_adc_a_n8 (n8 : Byte) (s : State) : Host.Outcome State Fault Refusal :=
  aluA .adc (.n8 n8) 8 s

/-- `SUB n8`, D6 (R143). -/
def exec_sub_n8 (n8 : Byte) (s : State) : Host.Outcome State Fault Refusal :=
  aluA .sub (.n8 n8) 8 s

/-- `SBC A,n8`, DE (R144). -/
def exec_sbc_a_n8 (n8 : Byte) (s : State) : Host.Outcome State Fault Refusal :=
  aluA .sbc (.n8 n8) 8 s

/-- `ADD SP,e8`, E8 (R145). -/
def exec_add_sp_e8 (e8 : Byte) (s : State) : Host.Outcome State Fault Refusal :=
  (State.setFlags { s with sp := s.sp + sext16 e8 } (spDispFlags s.sp e8)).done 16

end Sys2Proof.Machine
end

