-- ==== Sys2Proof/Machine/Bit.lean ====
section
/-! DEFINITION. Rotate, shift and bit instructions (47_bit.md): the shared operations, then one meaning per instruction with its row's cycle total. -/

namespace Sys2Proof.Machine

/-- RLCA, RRCA, RLA, RRA (R240 to R243). -/
def rotA (op : RotOp) (total : Nat) (s : State) : Host.Outcome State Fault Refusal :=
  let (v, c) := rotate op s.a (s.getFlag .c)
  ((s.set8 .a v).setFlags (rotAFlags c)).done total

/-- A CB rotate, shift or swap of an r8 operand: read once, written once at the same place (R244 to R252). -/
def rotR8 (op : RotOp) (r : R8) (total : Nat) (s : State) : Host.Outcome State Fault Refusal :=
  let (x, s1) := s.readR8 r
  let (v, c) := rotate op x (s1.getFlag .c)
  ((s1.writeR8 r v).setFlags (rotFlags v c)).done total

/-- BIT b: the operand is read and not written (R253). -/
def testBitR8 (b : Fin 8) (r : R8) (total : Nat) (s : State) : Host.Outcome State Fault Refusal :=
  let (v, s1) := s.readR8 r
  (s1.setFlags (bitFlags v b s1.flags)).done total

/-- RES b (R254). -/
def resBitR8 (b : Fin 8) (r : R8) (total : Nat) (s : State) : Host.Outcome State Fault Refusal :=
  let (v, s1) := s.readR8 r
  (s1.writeR8 r (v &&& ~~~(1#8 <<< b.val))).done total

/-- SET b (R255). -/
def setBitR8 (b : Fin 8) (r : R8) (total : Nat) (s : State) : Host.Outcome State Fault Refusal :=
  let (v, s1) := s.readR8 r
  (s1.writeR8 r (v ||| 1#8 <<< b.val)).done total

/-- `RLCA`, 07 (R240). -/
def exec_rlca (s : State) : Host.Outcome State Fault Refusal :=
  rotA .rlc 4 s

/-- `RRCA`, 0F (R241). -/
def exec_rrca (s : State) : Host.Outcome State Fault Refusal :=
  rotA .rrc 4 s

/-- `RLA`, 17 (R242). -/
def exec_rla (s : State) : Host.Outcome State Fault Refusal :=
  rotA .rl 4 s

/-- `RRA`, 1F (R243). -/
def exec_rra (s : State) : Host.Outcome State Fault Refusal :=
  rotA .rr 4 s

/-- `RLC B`, CB 00 (R245). -/
def exec_rlc_b (s : State) : Host.Outcome State Fault Refusal :=
  rotR8 .rlc .b 8 s

/-- `RLC C`, CB 01 (R245). -/
def exec_rlc_c (s : State) : Host.Outcome State Fault Refusal :=
  rotR8 .rlc .c 8 s

/-- `RLC D`, CB 02 (R245). -/
def exec_rlc_d (s : State) : Host.Outcome State Fault Refusal :=
  rotR8 .rlc .d 8 s

/-- `RLC E`, CB 03 (R245). -/
def exec_rlc_e (s : State) : Host.Outcome State Fault Refusal :=
  rotR8 .rlc .e 8 s

/-- `RLC H`, CB 04 (R245). -/
def exec_rlc_h (s : State) : Host.Outcome State Fault Refusal :=
  rotR8 .rlc .h 8 s

/-- `RLC L`, CB 05 (R245). -/
def exec_rlc_l (s : State) : Host.Outcome State Fault Refusal :=
  rotR8 .rlc .l 8 s

/-- `RLC (HL)`, CB 06 (R245). -/
def exec_rlc_mhl (s : State) : Host.Outcome State Fault Refusal :=
  rotR8 .rlc .mhl 16 s

/-- `RLC A`, CB 07 (R245). -/
def exec_rlc_a (s : State) : Host.Outcome State Fault Refusal :=
  rotR8 .rlc .a 8 s

/-- `RRC B`, CB 08 (R246). -/
def exec_rrc_b (s : State) : Host.Outcome State Fault Refusal :=
  rotR8 .rrc .b 8 s

/-- `RRC C`, CB 09 (R246). -/
def exec_rrc_c (s : State) : Host.Outcome State Fault Refusal :=
  rotR8 .rrc .c 8 s

/-- `RRC D`, CB 0A (R246). -/
def exec_rrc_d (s : State) : Host.Outcome State Fault Refusal :=
  rotR8 .rrc .d 8 s

/-- `RRC E`, CB 0B (R246). -/
def exec_rrc_e (s : State) : Host.Outcome State Fault Refusal :=
  rotR8 .rrc .e 8 s

/-- `RRC H`, CB 0C (R246). -/
def exec_rrc_h (s : State) : Host.Outcome State Fault Refusal :=
  rotR8 .rrc .h 8 s

/-- `RRC L`, CB 0D (R246). -/
def exec_rrc_l (s : State) : Host.Outcome State Fault Refusal :=
  rotR8 .rrc .l 8 s

/-- `RRC (HL)`, CB 0E (R246). -/
def exec_rrc_mhl (s : State) : Host.Outcome State Fault Refusal :=
  rotR8 .rrc .mhl 16 s

/-- `RRC A`, CB 0F (R246). -/
def exec_rrc_a (s : State) : Host.Outcome State Fault Refusal :=
  rotR8 .rrc .a 8 s

/-- `RL B`, CB 10 (R247). -/
def exec_rl_b (s : State) : Host.Outcome State Fault Refusal :=
  rotR8 .rl .b 8 s

/-- `RL C`, CB 11 (R247). -/
def exec_rl_c (s : State) : Host.Outcome State Fault Refusal :=
  rotR8 .rl .c 8 s

/-- `RL D`, CB 12 (R247). -/
def exec_rl_d (s : State) : Host.Outcome State Fault Refusal :=
  rotR8 .rl .d 8 s

/-- `RL E`, CB 13 (R247). -/
def exec_rl_e (s : State) : Host.Outcome State Fault Refusal :=
  rotR8 .rl .e 8 s

/-- `RL H`, CB 14 (R247). -/
def exec_rl_h (s : State) : Host.Outcome State Fault Refusal :=
  rotR8 .rl .h 8 s

/-- `RL L`, CB 15 (R247). -/
def exec_rl_l (s : State) : Host.Outcome State Fault Refusal :=
  rotR8 .rl .l 8 s

/-- `RL (HL)`, CB 16 (R247). -/
def exec_rl_mhl (s : State) : Host.Outcome State Fault Refusal :=
  rotR8 .rl .mhl 16 s

/-- `RL A`, CB 17 (R247). -/
def exec_rl_a (s : State) : Host.Outcome State Fault Refusal :=
  rotR8 .rl .a 8 s

/-- `RR B`, CB 18 (R248). -/
def exec_rr_b (s : State) : Host.Outcome State Fault Refusal :=
  rotR8 .rr .b 8 s

/-- `RR C`, CB 19 (R248). -/
def exec_rr_c (s : State) : Host.Outcome State Fault Refusal :=
  rotR8 .rr .c 8 s

/-- `RR D`, CB 1A (R248). -/
def exec_rr_d (s : State) : Host.Outcome State Fault Refusal :=
  rotR8 .rr .d 8 s

/-- `RR E`, CB 1B (R248). -/
def exec_rr_e (s : State) : Host.Outcome State Fault Refusal :=
  rotR8 .rr .e 8 s

/-- `RR H`, CB 1C (R248). -/
def exec_rr_h (s : State) : Host.Outcome State Fault Refusal :=
  rotR8 .rr .h 8 s

/-- `RR L`, CB 1D (R248). -/
def exec_rr_l (s : State) : Host.Outcome State Fault Refusal :=
  rotR8 .rr .l 8 s

/-- `RR (HL)`, CB 1E (R248). -/
def exec_rr_mhl (s : State) : Host.Outcome State Fault Refusal :=
  rotR8 .rr .mhl 16 s

/-- `RR A`, CB 1F (R248). -/
def exec_rr_a (s : State) : Host.Outcome State Fault Refusal :=
  rotR8 .rr .a 8 s

/-- `SLA B`, CB 20 (R249). -/
def exec_sla_b (s : State) : Host.Outcome State Fault Refusal :=
  rotR8 .sla .b 8 s

/-- `SLA C`, CB 21 (R249). -/
def exec_sla_c (s : State) : Host.Outcome State Fault Refusal :=
  rotR8 .sla .c 8 s

/-- `SLA D`, CB 22 (R249). -/
def exec_sla_d (s : State) : Host.Outcome State Fault Refusal :=
  rotR8 .sla .d 8 s

/-- `SLA E`, CB 23 (R249). -/
def exec_sla_e (s : State) : Host.Outcome State Fault Refusal :=
  rotR8 .sla .e 8 s

/-- `SLA H`, CB 24 (R249). -/
def exec_sla_h (s : State) : Host.Outcome State Fault Refusal :=
  rotR8 .sla .h 8 s

/-- `SLA L`, CB 25 (R249). -/
def exec_sla_l (s : State) : Host.Outcome State Fault Refusal :=
  rotR8 .sla .l 8 s

/-- `SLA (HL)`, CB 26 (R249). -/
def exec_sla_mhl (s : State) : Host.Outcome State Fault Refusal :=
  rotR8 .sla .mhl 16 s

/-- `SLA A`, CB 27 (R249). -/
def exec_sla_a (s : State) : Host.Outcome State Fault Refusal :=
  rotR8 .sla .a 8 s

/-- `SRA B`, CB 28 (R250). -/
def exec_sra_b (s : State) : Host.Outcome State Fault Refusal :=
  rotR8 .sra .b 8 s

/-- `SRA C`, CB 29 (R250). -/
def exec_sra_c (s : State) : Host.Outcome State Fault Refusal :=
  rotR8 .sra .c 8 s

/-- `SRA D`, CB 2A (R250). -/
def exec_sra_d (s : State) : Host.Outcome State Fault Refusal :=
  rotR8 .sra .d 8 s

/-- `SRA E`, CB 2B (R250). -/
def exec_sra_e (s : State) : Host.Outcome State Fault Refusal :=
  rotR8 .sra .e 8 s

/-- `SRA H`, CB 2C (R250). -/
def exec_sra_h (s : State) : Host.Outcome State Fault Refusal :=
  rotR8 .sra .h 8 s

/-- `SRA L`, CB 2D (R250). -/
def exec_sra_l (s : State) : Host.Outcome State Fault Refusal :=
  rotR8 .sra .l 8 s

/-- `SRA (HL)`, CB 2E (R250). -/
def exec_sra_mhl (s : State) : Host.Outcome State Fault Refusal :=
  rotR8 .sra .mhl 16 s

/-- `SRA A`, CB 2F (R250). -/
def exec_sra_a (s : State) : Host.Outcome State Fault Refusal :=
  rotR8 .sra .a 8 s

/-- `SWAP B`, CB 30 (R251). -/
def exec_swap_b (s : State) : Host.Outcome State Fault Refusal :=
  rotR8 .swap .b 8 s

/-- `SWAP C`, CB 31 (R251). -/
def exec_swap_c (s : State) : Host.Outcome State Fault Refusal :=
  rotR8 .swap .c 8 s

/-- `SWAP D`, CB 32 (R251). -/
def exec_swap_d (s : State) : Host.Outcome State Fault Refusal :=
  rotR8 .swap .d 8 s

/-- `SWAP E`, CB 33 (R251). -/
def exec_swap_e (s : State) : Host.Outcome State Fault Refusal :=
  rotR8 .swap .e 8 s

/-- `SWAP H`, CB 34 (R251). -/
def exec_swap_h (s : State) : Host.Outcome State Fault Refusal :=
  rotR8 .swap .h 8 s

/-- `SWAP L`, CB 35 (R251). -/
def exec_swap_l (s : State) : Host.Outcome State Fault Refusal :=
  rotR8 .swap .l 8 s

/-- `SWAP (HL)`, CB 36 (R251). -/
def exec_swap_mhl (s : State) : Host.Outcome State Fault Refusal :=
  rotR8 .swap .mhl 16 s

/-- `SWAP A`, CB 37 (R251). -/
def exec_swap_a (s : State) : Host.Outcome State Fault Refusal :=
  rotR8 .swap .a 8 s

/-- `SRL B`, CB 38 (R252). -/
def exec_srl_b (s : State) : Host.Outcome State Fault Refusal :=
  rotR8 .srl .b 8 s

/-- `SRL C`, CB 39 (R252). -/
def exec_srl_c (s : State) : Host.Outcome State Fault Refusal :=
  rotR8 .srl .c 8 s

/-- `SRL D`, CB 3A (R252). -/
def exec_srl_d (s : State) : Host.Outcome State Fault Refusal :=
  rotR8 .srl .d 8 s

/-- `SRL E`, CB 3B (R252). -/
def exec_srl_e (s : State) : Host.Outcome State Fault Refusal :=
  rotR8 .srl .e 8 s

/-- `SRL H`, CB 3C (R252). -/
def exec_srl_h (s : State) : Host.Outcome State Fault Refusal :=
  rotR8 .srl .h 8 s

/-- `SRL L`, CB 3D (R252). -/
def exec_srl_l (s : State) : Host.Outcome State Fault Refusal :=
  rotR8 .srl .l 8 s

/-- `SRL (HL)`, CB 3E (R252). -/
def exec_srl_mhl (s : State) : Host.Outcome State Fault Refusal :=
  rotR8 .srl .mhl 16 s

/-- `SRL A`, CB 3F (R252). -/
def exec_srl_a (s : State) : Host.Outcome State Fault Refusal :=
  rotR8 .srl .a 8 s

/-- `BIT 0,B`, CB 40 (R253). -/
def exec_bit_0_b (s : State) : Host.Outcome State Fault Refusal :=
  testBitR8 0 .b 8 s

/-- `BIT 0,C`, CB 41 (R253). -/
def exec_bit_0_c (s : State) : Host.Outcome State Fault Refusal :=
  testBitR8 0 .c 8 s

/-- `BIT 0,D`, CB 42 (R253). -/
def exec_bit_0_d (s : State) : Host.Outcome State Fault Refusal :=
  testBitR8 0 .d 8 s

/-- `BIT 0,E`, CB 43 (R253). -/
def exec_bit_0_e (s : State) : Host.Outcome State Fault Refusal :=
  testBitR8 0 .e 8 s

/-- `BIT 0,H`, CB 44 (R253). -/
def exec_bit_0_h (s : State) : Host.Outcome State Fault Refusal :=
  testBitR8 0 .h 8 s

/-- `BIT 0,L`, CB 45 (R253). -/
def exec_bit_0_l (s : State) : Host.Outcome State Fault Refusal :=
  testBitR8 0 .l 8 s

/-- `BIT 0,(HL)`, CB 46 (R253). -/
def exec_bit_0_mhl (s : State) : Host.Outcome State Fault Refusal :=
  testBitR8 0 .mhl 12 s

/-- `BIT 0,A`, CB 47 (R253). -/
def exec_bit_0_a (s : State) : Host.Outcome State Fault Refusal :=
  testBitR8 0 .a 8 s

/-- `BIT 1,B`, CB 48 (R253). -/
def exec_bit_1_b (s : State) : Host.Outcome State Fault Refusal :=
  testBitR8 1 .b 8 s

/-- `BIT 1,C`, CB 49 (R253). -/
def exec_bit_1_c (s : State) : Host.Outcome State Fault Refusal :=
  testBitR8 1 .c 8 s

/-- `BIT 1,D`, CB 4A (R253). -/
def exec_bit_1_d (s : State) : Host.Outcome State Fault Refusal :=
  testBitR8 1 .d 8 s

/-- `BIT 1,E`, CB 4B (R253). -/
def exec_bit_1_e (s : State) : Host.Outcome State Fault Refusal :=
  testBitR8 1 .e 8 s

/-- `BIT 1,H`, CB 4C (R253). -/
def exec_bit_1_h (s : State) : Host.Outcome State Fault Refusal :=
  testBitR8 1 .h 8 s

/-- `BIT 1,L`, CB 4D (R253). -/
def exec_bit_1_l (s : State) : Host.Outcome State Fault Refusal :=
  testBitR8 1 .l 8 s

/-- `BIT 1,(HL)`, CB 4E (R253). -/
def exec_bit_1_mhl (s : State) : Host.Outcome State Fault Refusal :=
  testBitR8 1 .mhl 12 s

/-- `BIT 1,A`, CB 4F (R253). -/
def exec_bit_1_a (s : State) : Host.Outcome State Fault Refusal :=
  testBitR8 1 .a 8 s

/-- `BIT 2,B`, CB 50 (R253). -/
def exec_bit_2_b (s : State) : Host.Outcome State Fault Refusal :=
  testBitR8 2 .b 8 s

/-- `BIT 2,C`, CB 51 (R253). -/
def exec_bit_2_c (s : State) : Host.Outcome State Fault Refusal :=
  testBitR8 2 .c 8 s

/-- `BIT 2,D`, CB 52 (R253). -/
def exec_bit_2_d (s : State) : Host.Outcome State Fault Refusal :=
  testBitR8 2 .d 8 s

/-- `BIT 2,E`, CB 53 (R253). -/
def exec_bit_2_e (s : State) : Host.Outcome State Fault Refusal :=
  testBitR8 2 .e 8 s

/-- `BIT 2,H`, CB 54 (R253). -/
def exec_bit_2_h (s : State) : Host.Outcome State Fault Refusal :=
  testBitR8 2 .h 8 s

/-- `BIT 2,L`, CB 55 (R253). -/
def exec_bit_2_l (s : State) : Host.Outcome State Fault Refusal :=
  testBitR8 2 .l 8 s

/-- `BIT 2,(HL)`, CB 56 (R253). -/
def exec_bit_2_mhl (s : State) : Host.Outcome State Fault Refusal :=
  testBitR8 2 .mhl 12 s

/-- `BIT 2,A`, CB 57 (R253). -/
def exec_bit_2_a (s : State) : Host.Outcome State Fault Refusal :=
  testBitR8 2 .a 8 s

/-- `BIT 3,B`, CB 58 (R253). -/
def exec_bit_3_b (s : State) : Host.Outcome State Fault Refusal :=
  testBitR8 3 .b 8 s

/-- `BIT 3,C`, CB 59 (R253). -/
def exec_bit_3_c (s : State) : Host.Outcome State Fault Refusal :=
  testBitR8 3 .c 8 s

/-- `BIT 3,D`, CB 5A (R253). -/
def exec_bit_3_d (s : State) : Host.Outcome State Fault Refusal :=
  testBitR8 3 .d 8 s

/-- `BIT 3,E`, CB 5B (R253). -/
def exec_bit_3_e (s : State) : Host.Outcome State Fault Refusal :=
  testBitR8 3 .e 8 s

/-- `BIT 3,H`, CB 5C (R253). -/
def exec_bit_3_h (s : State) : Host.Outcome State Fault Refusal :=
  testBitR8 3 .h 8 s

/-- `BIT 3,L`, CB 5D (R253). -/
def exec_bit_3_l (s : State) : Host.Outcome State Fault Refusal :=
  testBitR8 3 .l 8 s

/-- `BIT 3,(HL)`, CB 5E (R253). -/
def exec_bit_3_mhl (s : State) : Host.Outcome State Fault Refusal :=
  testBitR8 3 .mhl 12 s

/-- `BIT 3,A`, CB 5F (R253). -/
def exec_bit_3_a (s : State) : Host.Outcome State Fault Refusal :=
  testBitR8 3 .a 8 s

/-- `BIT 4,B`, CB 60 (R253). -/
def exec_bit_4_b (s : State) : Host.Outcome State Fault Refusal :=
  testBitR8 4 .b 8 s

/-- `BIT 4,C`, CB 61 (R253). -/
def exec_bit_4_c (s : State) : Host.Outcome State Fault Refusal :=
  testBitR8 4 .c 8 s

/-- `BIT 4,D`, CB 62 (R253). -/
def exec_bit_4_d (s : State) : Host.Outcome State Fault Refusal :=
  testBitR8 4 .d 8 s

/-- `BIT 4,E`, CB 63 (R253). -/
def exec_bit_4_e (s : State) : Host.Outcome State Fault Refusal :=
  testBitR8 4 .e 8 s

/-- `BIT 4,H`, CB 64 (R253). -/
def exec_bit_4_h (s : State) : Host.Outcome State Fault Refusal :=
  testBitR8 4 .h 8 s

/-- `BIT 4,L`, CB 65 (R253). -/
def exec_bit_4_l (s : State) : Host.Outcome State Fault Refusal :=
  testBitR8 4 .l 8 s

/-- `BIT 4,(HL)`, CB 66 (R253). -/
def exec_bit_4_mhl (s : State) : Host.Outcome State Fault Refusal :=
  testBitR8 4 .mhl 12 s

/-- `BIT 4,A`, CB 67 (R253). -/
def exec_bit_4_a (s : State) : Host.Outcome State Fault Refusal :=
  testBitR8 4 .a 8 s

/-- `BIT 5,B`, CB 68 (R253). -/
def exec_bit_5_b (s : State) : Host.Outcome State Fault Refusal :=
  testBitR8 5 .b 8 s

/-- `BIT 5,C`, CB 69 (R253). -/
def exec_bit_5_c (s : State) : Host.Outcome State Fault Refusal :=
  testBitR8 5 .c 8 s

/-- `BIT 5,D`, CB 6A (R253). -/
def exec_bit_5_d (s : State) : Host.Outcome State Fault Refusal :=
  testBitR8 5 .d 8 s

/-- `BIT 5,E`, CB 6B (R253). -/
def exec_bit_5_e (s : State) : Host.Outcome State Fault Refusal :=
  testBitR8 5 .e 8 s

/-- `BIT 5,H`, CB 6C (R253). -/
def exec_bit_5_h (s : State) : Host.Outcome State Fault Refusal :=
  testBitR8 5 .h 8 s

/-- `BIT 5,L`, CB 6D (R253). -/
def exec_bit_5_l (s : State) : Host.Outcome State Fault Refusal :=
  testBitR8 5 .l 8 s

/-- `BIT 5,(HL)`, CB 6E (R253). -/
def exec_bit_5_mhl (s : State) : Host.Outcome State Fault Refusal :=
  testBitR8 5 .mhl 12 s

/-- `BIT 5,A`, CB 6F (R253). -/
def exec_bit_5_a (s : State) : Host.Outcome State Fault Refusal :=
  testBitR8 5 .a 8 s

/-- `BIT 6,B`, CB 70 (R253). -/
def exec_bit_6_b (s : State) : Host.Outcome State Fault Refusal :=
  testBitR8 6 .b 8 s

/-- `BIT 6,C`, CB 71 (R253). -/
def exec_bit_6_c (s : State) : Host.Outcome State Fault Refusal :=
  testBitR8 6 .c 8 s

/-- `BIT 6,D`, CB 72 (R253). -/
def exec_bit_6_d (s : State) : Host.Outcome State Fault Refusal :=
  testBitR8 6 .d 8 s

/-- `BIT 6,E`, CB 73 (R253). -/
def exec_bit_6_e (s : State) : Host.Outcome State Fault Refusal :=
  testBitR8 6 .e 8 s

/-- `BIT 6,H`, CB 74 (R253). -/
def exec_bit_6_h (s : State) : Host.Outcome State Fault Refusal :=
  testBitR8 6 .h 8 s

/-- `BIT 6,L`, CB 75 (R253). -/
def exec_bit_6_l (s : State) : Host.Outcome State Fault Refusal :=
  testBitR8 6 .l 8 s

/-- `BIT 6,(HL)`, CB 76 (R253). -/
def exec_bit_6_mhl (s : State) : Host.Outcome State Fault Refusal :=
  testBitR8 6 .mhl 12 s

/-- `BIT 6,A`, CB 77 (R253). -/
def exec_bit_6_a (s : State) : Host.Outcome State Fault Refusal :=
  testBitR8 6 .a 8 s

/-- `BIT 7,B`, CB 78 (R253). -/
def exec_bit_7_b (s : State) : Host.Outcome State Fault Refusal :=
  testBitR8 7 .b 8 s

/-- `BIT 7,C`, CB 79 (R253). -/
def exec_bit_7_c (s : State) : Host.Outcome State Fault Refusal :=
  testBitR8 7 .c 8 s

/-- `BIT 7,D`, CB 7A (R253). -/
def exec_bit_7_d (s : State) : Host.Outcome State Fault Refusal :=
  testBitR8 7 .d 8 s

/-- `BIT 7,E`, CB 7B (R253). -/
def exec_bit_7_e (s : State) : Host.Outcome State Fault Refusal :=
  testBitR8 7 .e 8 s

/-- `BIT 7,H`, CB 7C (R253). -/
def exec_bit_7_h (s : State) : Host.Outcome State Fault Refusal :=
  testBitR8 7 .h 8 s

/-- `BIT 7,L`, CB 7D (R253). -/
def exec_bit_7_l (s : State) : Host.Outcome State Fault Refusal :=
  testBitR8 7 .l 8 s

/-- `BIT 7,(HL)`, CB 7E (R253). -/
def exec_bit_7_mhl (s : State) : Host.Outcome State Fault Refusal :=
  testBitR8 7 .mhl 12 s

/-- `BIT 7,A`, CB 7F (R253). -/
def exec_bit_7_a (s : State) : Host.Outcome State Fault Refusal :=
  testBitR8 7 .a 8 s

/-- `RES 0,B`, CB 80 (R254). -/
def exec_res_0_b (s : State) : Host.Outcome State Fault Refusal :=
  resBitR8 0 .b 8 s

/-- `RES 0,C`, CB 81 (R254). -/
def exec_res_0_c (s : State) : Host.Outcome State Fault Refusal :=
  resBitR8 0 .c 8 s

/-- `RES 0,D`, CB 82 (R254). -/
def exec_res_0_d (s : State) : Host.Outcome State Fault Refusal :=
  resBitR8 0 .d 8 s

/-- `RES 0,E`, CB 83 (R254). -/
def exec_res_0_e (s : State) : Host.Outcome State Fault Refusal :=
  resBitR8 0 .e 8 s

/-- `RES 0,H`, CB 84 (R254). -/
def exec_res_0_h (s : State) : Host.Outcome State Fault Refusal :=
  resBitR8 0 .h 8 s

/-- `RES 0,L`, CB 85 (R254). -/
def exec_res_0_l (s : State) : Host.Outcome State Fault Refusal :=
  resBitR8 0 .l 8 s

/-- `RES 0,(HL)`, CB 86 (R254). -/
def exec_res_0_mhl (s : State) : Host.Outcome State Fault Refusal :=
  resBitR8 0 .mhl 16 s

/-- `RES 0,A`, CB 87 (R254). -/
def exec_res_0_a (s : State) : Host.Outcome State Fault Refusal :=
  resBitR8 0 .a 8 s

/-- `RES 1,B`, CB 88 (R254). -/
def exec_res_1_b (s : State) : Host.Outcome State Fault Refusal :=
  resBitR8 1 .b 8 s

/-- `RES 1,C`, CB 89 (R254). -/
def exec_res_1_c (s : State) : Host.Outcome State Fault Refusal :=
  resBitR8 1 .c 8 s

/-- `RES 1,D`, CB 8A (R254). -/
def exec_res_1_d (s : State) : Host.Outcome State Fault Refusal :=
  resBitR8 1 .d 8 s

/-- `RES 1,E`, CB 8B (R254). -/
def exec_res_1_e (s : State) : Host.Outcome State Fault Refusal :=
  resBitR8 1 .e 8 s

/-- `RES 1,H`, CB 8C (R254). -/
def exec_res_1_h (s : State) : Host.Outcome State Fault Refusal :=
  resBitR8 1 .h 8 s

/-- `RES 1,L`, CB 8D (R254). -/
def exec_res_1_l (s : State) : Host.Outcome State Fault Refusal :=
  resBitR8 1 .l 8 s

/-- `RES 1,(HL)`, CB 8E (R254). -/
def exec_res_1_mhl (s : State) : Host.Outcome State Fault Refusal :=
  resBitR8 1 .mhl 16 s

/-- `RES 1,A`, CB 8F (R254). -/
def exec_res_1_a (s : State) : Host.Outcome State Fault Refusal :=
  resBitR8 1 .a 8 s

/-- `RES 2,B`, CB 90 (R254). -/
def exec_res_2_b (s : State) : Host.Outcome State Fault Refusal :=
  resBitR8 2 .b 8 s

/-- `RES 2,C`, CB 91 (R254). -/
def exec_res_2_c (s : State) : Host.Outcome State Fault Refusal :=
  resBitR8 2 .c 8 s

/-- `RES 2,D`, CB 92 (R254). -/
def exec_res_2_d (s : State) : Host.Outcome State Fault Refusal :=
  resBitR8 2 .d 8 s

/-- `RES 2,E`, CB 93 (R254). -/
def exec_res_2_e (s : State) : Host.Outcome State Fault Refusal :=
  resBitR8 2 .e 8 s

/-- `RES 2,H`, CB 94 (R254). -/
def exec_res_2_h (s : State) : Host.Outcome State Fault Refusal :=
  resBitR8 2 .h 8 s

/-- `RES 2,L`, CB 95 (R254). -/
def exec_res_2_l (s : State) : Host.Outcome State Fault Refusal :=
  resBitR8 2 .l 8 s

/-- `RES 2,(HL)`, CB 96 (R254). -/
def exec_res_2_mhl (s : State) : Host.Outcome State Fault Refusal :=
  resBitR8 2 .mhl 16 s

/-- `RES 2,A`, CB 97 (R254). -/
def exec_res_2_a (s : State) : Host.Outcome State Fault Refusal :=
  resBitR8 2 .a 8 s

/-- `RES 3,B`, CB 98 (R254). -/
def exec_res_3_b (s : State) : Host.Outcome State Fault Refusal :=
  resBitR8 3 .b 8 s

/-- `RES 3,C`, CB 99 (R254). -/
def exec_res_3_c (s : State) : Host.Outcome State Fault Refusal :=
  resBitR8 3 .c 8 s

/-- `RES 3,D`, CB 9A (R254). -/
def exec_res_3_d (s : State) : Host.Outcome State Fault Refusal :=
  resBitR8 3 .d 8 s

/-- `RES 3,E`, CB 9B (R254). -/
def exec_res_3_e (s : State) : Host.Outcome State Fault Refusal :=
  resBitR8 3 .e 8 s

/-- `RES 3,H`, CB 9C (R254). -/
def exec_res_3_h (s : State) : Host.Outcome State Fault Refusal :=
  resBitR8 3 .h 8 s

/-- `RES 3,L`, CB 9D (R254). -/
def exec_res_3_l (s : State) : Host.Outcome State Fault Refusal :=
  resBitR8 3 .l 8 s

/-- `RES 3,(HL)`, CB 9E (R254). -/
def exec_res_3_mhl (s : State) : Host.Outcome State Fault Refusal :=
  resBitR8 3 .mhl 16 s

/-- `RES 3,A`, CB 9F (R254). -/
def exec_res_3_a (s : State) : Host.Outcome State Fault Refusal :=
  resBitR8 3 .a 8 s

/-- `RES 4,B`, CB A0 (R254). -/
def exec_res_4_b (s : State) : Host.Outcome State Fault Refusal :=
  resBitR8 4 .b 8 s

/-- `RES 4,C`, CB A1 (R254). -/
def exec_res_4_c (s : State) : Host.Outcome State Fault Refusal :=
  resBitR8 4 .c 8 s

/-- `RES 4,D`, CB A2 (R254). -/
def exec_res_4_d (s : State) : Host.Outcome State Fault Refusal :=
  resBitR8 4 .d 8 s

/-- `RES 4,E`, CB A3 (R254). -/
def exec_res_4_e (s : State) : Host.Outcome State Fault Refusal :=
  resBitR8 4 .e 8 s

/-- `RES 4,H`, CB A4 (R254). -/
def exec_res_4_h (s : State) : Host.Outcome State Fault Refusal :=
  resBitR8 4 .h 8 s

/-- `RES 4,L`, CB A5 (R254). -/
def exec_res_4_l (s : State) : Host.Outcome State Fault Refusal :=
  resBitR8 4 .l 8 s

/-- `RES 4,(HL)`, CB A6 (R254). -/
def exec_res_4_mhl (s : State) : Host.Outcome State Fault Refusal :=
  resBitR8 4 .mhl 16 s

/-- `RES 4,A`, CB A7 (R254). -/
def exec_res_4_a (s : State) : Host.Outcome State Fault Refusal :=
  resBitR8 4 .a 8 s

/-- `RES 5,B`, CB A8 (R254). -/
def exec_res_5_b (s : State) : Host.Outcome State Fault Refusal :=
  resBitR8 5 .b 8 s

/-- `RES 5,C`, CB A9 (R254). -/
def exec_res_5_c (s : State) : Host.Outcome State Fault Refusal :=
  resBitR8 5 .c 8 s

/-- `RES 5,D`, CB AA (R254). -/
def exec_res_5_d (s : State) : Host.Outcome State Fault Refusal :=
  resBitR8 5 .d 8 s

/-- `RES 5,E`, CB AB (R254). -/
def exec_res_5_e (s : State) : Host.Outcome State Fault Refusal :=
  resBitR8 5 .e 8 s

/-- `RES 5,H`, CB AC (R254). -/
def exec_res_5_h (s : State) : Host.Outcome State Fault Refusal :=
  resBitR8 5 .h 8 s

/-- `RES 5,L`, CB AD (R254). -/
def exec_res_5_l (s : State) : Host.Outcome State Fault Refusal :=
  resBitR8 5 .l 8 s

/-- `RES 5,(HL)`, CB AE (R254). -/
def exec_res_5_mhl (s : State) : Host.Outcome State Fault Refusal :=
  resBitR8 5 .mhl 16 s

/-- `RES 5,A`, CB AF (R254). -/
def exec_res_5_a (s : State) : Host.Outcome State Fault Refusal :=
  resBitR8 5 .a 8 s

/-- `RES 6,B`, CB B0 (R254). -/
def exec_res_6_b (s : State) : Host.Outcome State Fault Refusal :=
  resBitR8 6 .b 8 s

/-- `RES 6,C`, CB B1 (R254). -/
def exec_res_6_c (s : State) : Host.Outcome State Fault Refusal :=
  resBitR8 6 .c 8 s

/-- `RES 6,D`, CB B2 (R254). -/
def exec_res_6_d (s : State) : Host.Outcome State Fault Refusal :=
  resBitR8 6 .d 8 s

/-- `RES 6,E`, CB B3 (R254). -/
def exec_res_6_e (s : State) : Host.Outcome State Fault Refusal :=
  resBitR8 6 .e 8 s

/-- `RES 6,H`, CB B4 (R254). -/
def exec_res_6_h (s : State) : Host.Outcome State Fault Refusal :=
  resBitR8 6 .h 8 s

/-- `RES 6,L`, CB B5 (R254). -/
def exec_res_6_l (s : State) : Host.Outcome State Fault Refusal :=
  resBitR8 6 .l 8 s

/-- `RES 6,(HL)`, CB B6 (R254). -/
def exec_res_6_mhl (s : State) : Host.Outcome State Fault Refusal :=
  resBitR8 6 .mhl 16 s

/-- `RES 6,A`, CB B7 (R254). -/
def exec_res_6_a (s : State) : Host.Outcome State Fault Refusal :=
  resBitR8 6 .a 8 s

/-- `RES 7,B`, CB B8 (R254). -/
def exec_res_7_b (s : State) : Host.Outcome State Fault Refusal :=
  resBitR8 7 .b 8 s

/-- `RES 7,C`, CB B9 (R254). -/
def exec_res_7_c (s : State) : Host.Outcome State Fault Refusal :=
  resBitR8 7 .c 8 s

/-- `RES 7,D`, CB BA (R254). -/
def exec_res_7_d (s : State) : Host.Outcome State Fault Refusal :=
  resBitR8 7 .d 8 s

/-- `RES 7,E`, CB BB (R254). -/
def exec_res_7_e (s : State) : Host.Outcome State Fault Refusal :=
  resBitR8 7 .e 8 s

/-- `RES 7,H`, CB BC (R254). -/
def exec_res_7_h (s : State) : Host.Outcome State Fault Refusal :=
  resBitR8 7 .h 8 s

/-- `RES 7,L`, CB BD (R254). -/
def exec_res_7_l (s : State) : Host.Outcome State Fault Refusal :=
  resBitR8 7 .l 8 s

/-- `RES 7,(HL)`, CB BE (R254). -/
def exec_res_7_mhl (s : State) : Host.Outcome State Fault Refusal :=
  resBitR8 7 .mhl 16 s

/-- `RES 7,A`, CB BF (R254). -/
def exec_res_7_a (s : State) : Host.Outcome State Fault Refusal :=
  resBitR8 7 .a 8 s

/-- `SET 0,B`, CB C0 (R255). -/
def exec_set_0_b (s : State) : Host.Outcome State Fault Refusal :=
  setBitR8 0 .b 8 s

/-- `SET 0,C`, CB C1 (R255). -/
def exec_set_0_c (s : State) : Host.Outcome State Fault Refusal :=
  setBitR8 0 .c 8 s

/-- `SET 0,D`, CB C2 (R255). -/
def exec_set_0_d (s : State) : Host.Outcome State Fault Refusal :=
  setBitR8 0 .d 8 s

/-- `SET 0,E`, CB C3 (R255). -/
def exec_set_0_e (s : State) : Host.Outcome State Fault Refusal :=
  setBitR8 0 .e 8 s

/-- `SET 0,H`, CB C4 (R255). -/
def exec_set_0_h (s : State) : Host.Outcome State Fault Refusal :=
  setBitR8 0 .h 8 s

/-- `SET 0,L`, CB C5 (R255). -/
def exec_set_0_l (s : State) : Host.Outcome State Fault Refusal :=
  setBitR8 0 .l 8 s

/-- `SET 0,(HL)`, CB C6 (R255). -/
def exec_set_0_mhl (s : State) : Host.Outcome State Fault Refusal :=
  setBitR8 0 .mhl 16 s

/-- `SET 0,A`, CB C7 (R255). -/
def exec_set_0_a (s : State) : Host.Outcome State Fault Refusal :=
  setBitR8 0 .a 8 s

/-- `SET 1,B`, CB C8 (R255). -/
def exec_set_1_b (s : State) : Host.Outcome State Fault Refusal :=
  setBitR8 1 .b 8 s

/-- `SET 1,C`, CB C9 (R255). -/
def exec_set_1_c (s : State) : Host.Outcome State Fault Refusal :=
  setBitR8 1 .c 8 s

/-- `SET 1,D`, CB CA (R255). -/
def exec_set_1_d (s : State) : Host.Outcome State Fault Refusal :=
  setBitR8 1 .d 8 s

/-- `SET 1,E`, CB CB (R255). -/
def exec_set_1_e (s : State) : Host.Outcome State Fault Refusal :=
  setBitR8 1 .e 8 s

/-- `SET 1,H`, CB CC (R255). -/
def exec_set_1_h (s : State) : Host.Outcome State Fault Refusal :=
  setBitR8 1 .h 8 s

/-- `SET 1,L`, CB CD (R255). -/
def exec_set_1_l (s : State) : Host.Outcome State Fault Refusal :=
  setBitR8 1 .l 8 s

/-- `SET 1,(HL)`, CB CE (R255). -/
def exec_set_1_mhl (s : State) : Host.Outcome State Fault Refusal :=
  setBitR8 1 .mhl 16 s

/-- `SET 1,A`, CB CF (R255). -/
def exec_set_1_a (s : State) : Host.Outcome State Fault Refusal :=
  setBitR8 1 .a 8 s

/-- `SET 2,B`, CB D0 (R255). -/
def exec_set_2_b (s : State) : Host.Outcome State Fault Refusal :=
  setBitR8 2 .b 8 s

/-- `SET 2,C`, CB D1 (R255). -/
def exec_set_2_c (s : State) : Host.Outcome State Fault Refusal :=
  setBitR8 2 .c 8 s

/-- `SET 2,D`, CB D2 (R255). -/
def exec_set_2_d (s : State) : Host.Outcome State Fault Refusal :=
  setBitR8 2 .d 8 s

/-- `SET 2,E`, CB D3 (R255). -/
def exec_set_2_e (s : State) : Host.Outcome State Fault Refusal :=
  setBitR8 2 .e 8 s

/-- `SET 2,H`, CB D4 (R255). -/
def exec_set_2_h (s : State) : Host.Outcome State Fault Refusal :=
  setBitR8 2 .h 8 s

/-- `SET 2,L`, CB D5 (R255). -/
def exec_set_2_l (s : State) : Host.Outcome State Fault Refusal :=
  setBitR8 2 .l 8 s

/-- `SET 2,(HL)`, CB D6 (R255). -/
def exec_set_2_mhl (s : State) : Host.Outcome State Fault Refusal :=
  setBitR8 2 .mhl 16 s

/-- `SET 2,A`, CB D7 (R255). -/
def exec_set_2_a (s : State) : Host.Outcome State Fault Refusal :=
  setBitR8 2 .a 8 s

/-- `SET 3,B`, CB D8 (R255). -/
def exec_set_3_b (s : State) : Host.Outcome State Fault Refusal :=
  setBitR8 3 .b 8 s

/-- `SET 3,C`, CB D9 (R255). -/
def exec_set_3_c (s : State) : Host.Outcome State Fault Refusal :=
  setBitR8 3 .c 8 s

/-- `SET 3,D`, CB DA (R255). -/
def exec_set_3_d (s : State) : Host.Outcome State Fault Refusal :=
  setBitR8 3 .d 8 s

/-- `SET 3,E`, CB DB (R255). -/
def exec_set_3_e (s : State) : Host.Outcome State Fault Refusal :=
  setBitR8 3 .e 8 s

/-- `SET 3,H`, CB DC (R255). -/
def exec_set_3_h (s : State) : Host.Outcome State Fault Refusal :=
  setBitR8 3 .h 8 s

/-- `SET 3,L`, CB DD (R255). -/
def exec_set_3_l (s : State) : Host.Outcome State Fault Refusal :=
  setBitR8 3 .l 8 s

/-- `SET 3,(HL)`, CB DE (R255). -/
def exec_set_3_mhl (s : State) : Host.Outcome State Fault Refusal :=
  setBitR8 3 .mhl 16 s

/-- `SET 3,A`, CB DF (R255). -/
def exec_set_3_a (s : State) : Host.Outcome State Fault Refusal :=
  setBitR8 3 .a 8 s

/-- `SET 4,B`, CB E0 (R255). -/
def exec_set_4_b (s : State) : Host.Outcome State Fault Refusal :=
  setBitR8 4 .b 8 s

/-- `SET 4,C`, CB E1 (R255). -/
def exec_set_4_c (s : State) : Host.Outcome State Fault Refusal :=
  setBitR8 4 .c 8 s

/-- `SET 4,D`, CB E2 (R255). -/
def exec_set_4_d (s : State) : Host.Outcome State Fault Refusal :=
  setBitR8 4 .d 8 s

/-- `SET 4,E`, CB E3 (R255). -/
def exec_set_4_e (s : State) : Host.Outcome State Fault Refusal :=
  setBitR8 4 .e 8 s

/-- `SET 4,H`, CB E4 (R255). -/
def exec_set_4_h (s : State) : Host.Outcome State Fault Refusal :=
  setBitR8 4 .h 8 s

/-- `SET 4,L`, CB E5 (R255). -/
def exec_set_4_l (s : State) : Host.Outcome State Fault Refusal :=
  setBitR8 4 .l 8 s

/-- `SET 4,(HL)`, CB E6 (R255). -/
def exec_set_4_mhl (s : State) : Host.Outcome State Fault Refusal :=
  setBitR8 4 .mhl 16 s

/-- `SET 4,A`, CB E7 (R255). -/
def exec_set_4_a (s : State) : Host.Outcome State Fault Refusal :=
  setBitR8 4 .a 8 s

/-- `SET 5,B`, CB E8 (R255). -/
def exec_set_5_b (s : State) : Host.Outcome State Fault Refusal :=
  setBitR8 5 .b 8 s

/-- `SET 5,C`, CB E9 (R255). -/
def exec_set_5_c (s : State) : Host.Outcome State Fault Refusal :=
  setBitR8 5 .c 8 s

/-- `SET 5,D`, CB EA (R255). -/
def exec_set_5_d (s : State) : Host.Outcome State Fault Refusal :=
  setBitR8 5 .d 8 s

/-- `SET 5,E`, CB EB (R255). -/
def exec_set_5_e (s : State) : Host.Outcome State Fault Refusal :=
  setBitR8 5 .e 8 s

/-- `SET 5,H`, CB EC (R255). -/
def exec_set_5_h (s : State) : Host.Outcome State Fault Refusal :=
  setBitR8 5 .h 8 s

/-- `SET 5,L`, CB ED (R255). -/
def exec_set_5_l (s : State) : Host.Outcome State Fault Refusal :=
  setBitR8 5 .l 8 s

/-- `SET 5,(HL)`, CB EE (R255). -/
def exec_set_5_mhl (s : State) : Host.Outcome State Fault Refusal :=
  setBitR8 5 .mhl 16 s

/-- `SET 5,A`, CB EF (R255). -/
def exec_set_5_a (s : State) : Host.Outcome State Fault Refusal :=
  setBitR8 5 .a 8 s

/-- `SET 6,B`, CB F0 (R255). -/
def exec_set_6_b (s : State) : Host.Outcome State Fault Refusal :=
  setBitR8 6 .b 8 s

/-- `SET 6,C`, CB F1 (R255). -/
def exec_set_6_c (s : State) : Host.Outcome State Fault Refusal :=
  setBitR8 6 .c 8 s

/-- `SET 6,D`, CB F2 (R255). -/
def exec_set_6_d (s : State) : Host.Outcome State Fault Refusal :=
  setBitR8 6 .d 8 s

/-- `SET 6,E`, CB F3 (R255). -/
def exec_set_6_e (s : State) : Host.Outcome State Fault Refusal :=
  setBitR8 6 .e 8 s

/-- `SET 6,H`, CB F4 (R255). -/
def exec_set_6_h (s : State) : Host.Outcome State Fault Refusal :=
  setBitR8 6 .h 8 s

/-- `SET 6,L`, CB F5 (R255). -/
def exec_set_6_l (s : State) : Host.Outcome State Fault Refusal :=
  setBitR8 6 .l 8 s

/-- `SET 6,(HL)`, CB F6 (R255). -/
def exec_set_6_mhl (s : State) : Host.Outcome State Fault Refusal :=
  setBitR8 6 .mhl 16 s

/-- `SET 6,A`, CB F7 (R255). -/
def exec_set_6_a (s : State) : Host.Outcome State Fault Refusal :=
  setBitR8 6 .a 8 s

/-- `SET 7,B`, CB F8 (R255). -/
def exec_set_7_b (s : State) : Host.Outcome State Fault Refusal :=
  setBitR8 7 .b 8 s

/-- `SET 7,C`, CB F9 (R255). -/
def exec_set_7_c (s : State) : Host.Outcome State Fault Refusal :=
  setBitR8 7 .c 8 s

/-- `SET 7,D`, CB FA (R255). -/
def exec_set_7_d (s : State) : Host.Outcome State Fault Refusal :=
  setBitR8 7 .d 8 s

/-- `SET 7,E`, CB FB (R255). -/
def exec_set_7_e (s : State) : Host.Outcome State Fault Refusal :=
  setBitR8 7 .e 8 s

/-- `SET 7,H`, CB FC (R255). -/
def exec_set_7_h (s : State) : Host.Outcome State Fault Refusal :=
  setBitR8 7 .h 8 s

/-- `SET 7,L`, CB FD (R255). -/
def exec_set_7_l (s : State) : Host.Outcome State Fault Refusal :=
  setBitR8 7 .l 8 s

/-- `SET 7,(HL)`, CB FE (R255). -/
def exec_set_7_mhl (s : State) : Host.Outcome State Fault Refusal :=
  setBitR8 7 .mhl 16 s

/-- `SET 7,A`, CB FF (R255). -/
def exec_set_7_a (s : State) : Host.Outcome State Fault Refusal :=
  setBitR8 7 .a 8 s

end Sys2Proof.Machine
end

