-- ==== Sys2Proof/Machine/Compare.lean ====
section
/-! DEFINITION. The compare instruction (44_compare.md): the shared operations, then one meaning per instruction with its row's cycle total. -/

namespace Sys2Proof.Machine

/-- CP: the flags of A - X; A is not written (R180). -/
def cpA (src : AluSrc) (total : Nat) (s : State) : Host.Outcome State Fault Refusal :=
  let (x, s1) := s.readSrc src
  (s1.setFlags (alu .cp s1.a x (s1.getFlag .c)).flags).done total

/-- `CP B`, B8 (R180). -/
def exec_cp_b (s : State) : Host.Outcome State Fault Refusal :=
  cpA (.r8 .b) 4 s

/-- `CP C`, B9 (R180). -/
def exec_cp_c (s : State) : Host.Outcome State Fault Refusal :=
  cpA (.r8 .c) 4 s

/-- `CP D`, BA (R180). -/
def exec_cp_d (s : State) : Host.Outcome State Fault Refusal :=
  cpA (.r8 .d) 4 s

/-- `CP E`, BB (R180). -/
def exec_cp_e (s : State) : Host.Outcome State Fault Refusal :=
  cpA (.r8 .e) 4 s

/-- `CP H`, BC (R180). -/
def exec_cp_h (s : State) : Host.Outcome State Fault Refusal :=
  cpA (.r8 .h) 4 s

/-- `CP L`, BD (R180). -/
def exec_cp_l (s : State) : Host.Outcome State Fault Refusal :=
  cpA (.r8 .l) 4 s

/-- `CP (HL)`, BE (R180). -/
def exec_cp_mhl (s : State) : Host.Outcome State Fault Refusal :=
  cpA (.r8 .mhl) 8 s

/-- `CP A`, BF (R180). -/
def exec_cp_a (s : State) : Host.Outcome State Fault Refusal :=
  cpA (.r8 .a) 4 s

/-- `CP n8`, FE (R180). -/
def exec_cp_n8 (n8 : Byte) (s : State) : Host.Outcome State Fault Refusal :=
  cpA (.n8 n8) 8 s

end Sys2Proof.Machine
end

