-- ==== Sys2Proof/Machine/Control.lean ====
section
/-! DEFINITION. Control transfer. In every meaning PC on entry is the address after the instruction (10_state.md R28) (46_control.md): the shared operations, then one meaning per instruction with its row's cycle total. -/

namespace Sys2Proof.Machine

/-- `PC <- target` (R211, R213). -/
def State.jump (s : State) (target : Word) : State := { s with pc := target }

/-- `PC <- PC + sext_16(e)` (R214). -/
def State.jumpRel (s : State) (e : Byte) : State := { s with pc := s.pc + sext16 e }

/-- `Push16(PC); PC <- target` (R216, R221). -/
def State.call (s : State) (target : Word) : State := { s.push16 s.pc with pc := target }

/-- `PC <- Pop16()` (R218). -/
def State.ret (s : State) : State :=
  let (target, s1) := s.pop16
  { s1 with pc := target }

/-- A conditional transfer: `taken` and its count where the condition holds, else nothing but the lower count (R210). -/
def branch (cc : Cc) (taken : State) (totalTaken totalNot : Nat) (s : State) : Host.Outcome State Fault Refusal :=
  if s.cond cc then taken.done totalTaken else s.done totalNot

/-- `JR e8`, 18 (R214). -/
def exec_jr_e8 (e8 : Byte) (s : State) : Host.Outcome State Fault Refusal :=
  (s.jumpRel e8).done 12

/-- `JR NZ,e8`, 20 (R215). -/
def exec_jr_nz_e8 (e8 : Byte) (s : State) : Host.Outcome State Fault Refusal :=
  branch .nz (s.jumpRel e8) 12 8 s

/-- `JR Z,e8`, 28 (R215). -/
def exec_jr_z_e8 (e8 : Byte) (s : State) : Host.Outcome State Fault Refusal :=
  branch .z (s.jumpRel e8) 12 8 s

/-- `JR NC,e8`, 30 (R215). -/
def exec_jr_nc_e8 (e8 : Byte) (s : State) : Host.Outcome State Fault Refusal :=
  branch .nc (s.jumpRel e8) 12 8 s

/-- `JR C,e8`, 38 (R215). -/
def exec_jr_c_e8 (e8 : Byte) (s : State) : Host.Outcome State Fault Refusal :=
  branch .c (s.jumpRel e8) 12 8 s

/-- `RET NZ`, C0 (R219). -/
def exec_ret_nz (s : State) : Host.Outcome State Fault Refusal :=
  branch .nz s.ret 20 8 s

/-- `JP NZ,a16`, C2 (R212). -/
def exec_jp_nz_a16 (a16 : Word) (s : State) : Host.Outcome State Fault Refusal :=
  branch .nz (s.jump a16) 16 12 s

/-- `JP a16`, C3 (R211). -/
def exec_jp_a16 (a16 : Word) (s : State) : Host.Outcome State Fault Refusal :=
  (s.jump a16).done 16

/-- `CALL NZ,a16`, C4 (R217). -/
def exec_call_nz_a16 (a16 : Word) (s : State) : Host.Outcome State Fault Refusal :=
  branch .nz (s.call a16) 24 12 s

/-- `RST $00`, C7 (R221). -/
def exec_rst_00 (s : State) : Host.Outcome State Fault Refusal :=
  (s.call (rstTarget 0)).done 16

/-- `RET Z`, C8 (R219). -/
def exec_ret_z (s : State) : Host.Outcome State Fault Refusal :=
  branch .z s.ret 20 8 s

/-- `RET`, C9 (R218). -/
def exec_ret (s : State) : Host.Outcome State Fault Refusal :=
  s.ret.done 16

/-- `JP Z,a16`, CA (R212). -/
def exec_jp_z_a16 (a16 : Word) (s : State) : Host.Outcome State Fault Refusal :=
  branch .z (s.jump a16) 16 12 s

/-- `CALL Z,a16`, CC (R217). -/
def exec_call_z_a16 (a16 : Word) (s : State) : Host.Outcome State Fault Refusal :=
  branch .z (s.call a16) 24 12 s

/-- `CALL a16`, CD (R216). -/
def exec_call_a16 (a16 : Word) (s : State) : Host.Outcome State Fault Refusal :=
  (s.call a16).done 24

/-- `RST $08`, CF (R221). -/
def exec_rst_08 (s : State) : Host.Outcome State Fault Refusal :=
  (s.call (rstTarget 1)).done 16

/-- `RET NC`, D0 (R219). -/
def exec_ret_nc (s : State) : Host.Outcome State Fault Refusal :=
  branch .nc s.ret 20 8 s

/-- `JP NC,a16`, D2 (R212). -/
def exec_jp_nc_a16 (a16 : Word) (s : State) : Host.Outcome State Fault Refusal :=
  branch .nc (s.jump a16) 16 12 s

/-- `CALL NC,a16`, D4 (R217). -/
def exec_call_nc_a16 (a16 : Word) (s : State) : Host.Outcome State Fault Refusal :=
  branch .nc (s.call a16) 24 12 s

/-- `RST $10`, D7 (R221). -/
def exec_rst_10 (s : State) : Host.Outcome State Fault Refusal :=
  (s.call (rstTarget 2)).done 16

/-- `RET C`, D8 (R219). -/
def exec_ret_c (s : State) : Host.Outcome State Fault Refusal :=
  branch .c s.ret 20 8 s

/-- `RETI`, D9 (R220). -/
def exec_reti (s : State) : Host.Outcome State Fault Refusal :=
  State.done { s.ret with ime := true } 16

/-- `JP C,a16`, DA (R212). -/
def exec_jp_c_a16 (a16 : Word) (s : State) : Host.Outcome State Fault Refusal :=
  branch .c (s.jump a16) 16 12 s

/-- `CALL C,a16`, DC (R217). -/
def exec_call_c_a16 (a16 : Word) (s : State) : Host.Outcome State Fault Refusal :=
  branch .c (s.call a16) 24 12 s

/-- `RST $18`, DF (R221). -/
def exec_rst_18 (s : State) : Host.Outcome State Fault Refusal :=
  (s.call (rstTarget 3)).done 16

/-- `RST $20`, E7 (R221). -/
def exec_rst_20 (s : State) : Host.Outcome State Fault Refusal :=
  (s.call (rstTarget 4)).done 16

/-- `JP HL`, E9 (R213). -/
def exec_jp_hl (s : State) : Host.Outcome State Fault Refusal :=
  (s.jump (s.get16 .hl)).done 4

/-- `RST $28`, EF (R221). -/
def exec_rst_28 (s : State) : Host.Outcome State Fault Refusal :=
  (s.call (rstTarget 5)).done 16

/-- `RST $30`, F7 (R221). -/
def exec_rst_30 (s : State) : Host.Outcome State Fault Refusal :=
  (s.call (rstTarget 6)).done 16

/-- `RST $38`, FF (R221). -/
def exec_rst_38 (s : State) : Host.Outcome State Fault Refusal :=
  (s.call (rstTarget 7)).done 16

end Sys2Proof.Machine
end

