-- ==== Sys2Proof/Machine/IncDec.lean ====
section
/-! DEFINITION. Increment and decrement instructions (45_incdec.md): the shared operations, then one meaning per instruction with its row's cycle total. -/

namespace Sys2Proof.Machine

/-- INC of an r8 operand: read, write at the same place, flags (R190, R192). -/
def incR8 (r : R8) (total : Nat) (s : State) : Host.Outcome State Fault Refusal :=
  let (v, s1) := s.readR8 r
  let x := inc8 v s1.flags
  ((s1.writeR8 r x.value).setFlags x.flags).done total

/-- DEC of an r8 operand (R191, R193). -/
def decR8 (r : R8) (total : Nat) (s : State) : Host.Outcome State Fault Refusal :=
  let (v, s1) := s.readR8 r
  let x := dec8 v s1.flags
  ((s1.writeR8 r x.value).setFlags x.flags).done total

/-- `INC BC`, 03 (R194). -/
def exec_inc_bc (s : State) : Host.Outcome State Fault Refusal :=
  (s.setR16 .bc (s.getR16 .bc + 1)).done 8

/-- `INC B`, 04 (R190). -/
def exec_inc_b (s : State) : Host.Outcome State Fault Refusal :=
  incR8 .b 4 s

/-- `DEC B`, 05 (R191). -/
def exec_dec_b (s : State) : Host.Outcome State Fault Refusal :=
  decR8 .b 4 s

/-- `DEC BC`, 0B (R195). -/
def exec_dec_bc (s : State) : Host.Outcome State Fault Refusal :=
  (s.setR16 .bc (s.getR16 .bc - 1)).done 8

/-- `INC C`, 0C (R190). -/
def exec_inc_c (s : State) : Host.Outcome State Fault Refusal :=
  incR8 .c 4 s

/-- `DEC C`, 0D (R191). -/
def exec_dec_c (s : State) : Host.Outcome State Fault Refusal :=
  decR8 .c 4 s

/-- `INC DE`, 13 (R194). -/
def exec_inc_de (s : State) : Host.Outcome State Fault Refusal :=
  (s.setR16 .de (s.getR16 .de + 1)).done 8

/-- `INC D`, 14 (R190). -/
def exec_inc_d (s : State) : Host.Outcome State Fault Refusal :=
  incR8 .d 4 s

/-- `DEC D`, 15 (R191). -/
def exec_dec_d (s : State) : Host.Outcome State Fault Refusal :=
  decR8 .d 4 s

/-- `DEC DE`, 1B (R195). -/
def exec_dec_de (s : State) : Host.Outcome State Fault Refusal :=
  (s.setR16 .de (s.getR16 .de - 1)).done 8

/-- `INC E`, 1C (R190). -/
def exec_inc_e (s : State) : Host.Outcome State Fault Refusal :=
  incR8 .e 4 s

/-- `DEC E`, 1D (R191). -/
def exec_dec_e (s : State) : Host.Outcome State Fault Refusal :=
  decR8 .e 4 s

/-- `INC HL`, 23 (R194). -/
def exec_inc_hl (s : State) : Host.Outcome State Fault Refusal :=
  (s.setR16 .hl (s.getR16 .hl + 1)).done 8

/-- `INC H`, 24 (R190). -/
def exec_inc_h (s : State) : Host.Outcome State Fault Refusal :=
  incR8 .h 4 s

/-- `DEC H`, 25 (R191). -/
def exec_dec_h (s : State) : Host.Outcome State Fault Refusal :=
  decR8 .h 4 s

/-- `DEC HL`, 2B (R195). -/
def exec_dec_hl (s : State) : Host.Outcome State Fault Refusal :=
  (s.setR16 .hl (s.getR16 .hl - 1)).done 8

/-- `INC L`, 2C (R190). -/
def exec_inc_l (s : State) : Host.Outcome State Fault Refusal :=
  incR8 .l 4 s

/-- `DEC L`, 2D (R191). -/
def exec_dec_l (s : State) : Host.Outcome State Fault Refusal :=
  decR8 .l 4 s

/-- `INC SP`, 33 (R194). -/
def exec_inc_sp (s : State) : Host.Outcome State Fault Refusal :=
  (s.setR16 .sp (s.getR16 .sp + 1)).done 8

/-- `INC (HL)`, 34 (R192). -/
def exec_inc_mhl (s : State) : Host.Outcome State Fault Refusal :=
  incR8 .mhl 12 s

/-- `DEC (HL)`, 35 (R193). -/
def exec_dec_mhl (s : State) : Host.Outcome State Fault Refusal :=
  decR8 .mhl 12 s

/-- `DEC SP`, 3B (R195). -/
def exec_dec_sp (s : State) : Host.Outcome State Fault Refusal :=
  (s.setR16 .sp (s.getR16 .sp - 1)).done 8

/-- `INC A`, 3C (R190). -/
def exec_inc_a (s : State) : Host.Outcome State Fault Refusal :=
  incR8 .a 4 s

/-- `DEC A`, 3D (R191). -/
def exec_dec_a (s : State) : Host.Outcome State Fault Refusal :=
  decR8 .a 4 s

end Sys2Proof.Machine
end

