-- ==== Sys2Proof/Machine/Load.lean ====
section
/-! DEFINITION. Load instructions (41_load.md): the shared operations, then one meaning per instruction with its row's cycle total. -/

namespace Sys2Proof.Machine

/-- LD between r8 operands: a register copy, a load from (HL) or a store to (HL); the address is taken before the write
(R111, R113, R114). -/
def ldR8 (dst src : R8) (total : Nat) (s : State) : Host.Outcome State Fault Refusal :=
  let (v, s1) := s.readR8 src
  (s1.writeR8 dst v).done total

/-- LD A from an address (R124, R126, R128). -/
def loadAAt (addr : Word) (total : Nat) (s : State) : Host.Outcome State Fault Refusal :=
  let (v, s1) := s.memRead addr
  (s1.set8 .a v).done total

/-- LD of A to an address (R125, R127, R129). -/
def storeAAt (addr : Word) (total : Nat) (s : State) : Host.Outcome State Fault Refusal := (s.memWrite addr s.a).done total

/-- LD A through a pointing pair, which is moved after the access (R116, R117, R120, R121). -/
def loadA (m : R16Mem) (total : Nat) (s : State) : Host.Outcome State Fault Refusal :=
  let addr := s.memAddr m
  let (v, s1) := s.memRead addr
  ((s1.set8 .a v).movePointer m addr).done total

/-- LD of A through a pointing pair, which is moved after the access (R118, R119, R122, R123). -/
def storeA (m : R16Mem) (total : Nat) (s : State) : Host.Outcome State Fault Refusal :=
  let addr := s.memAddr m
  ((s.memWrite addr s.a).movePointer m addr).done total

/-- `LD BC,n16`, 01 (R130). -/
def exec_ld_bc_n16 (n16 : Word) (s : State) : Host.Outcome State Fault Refusal :=
  (s.setR16 .bc n16).done 12

/-- `LD (BC),A`, 02 (R118). -/
def exec_ld_mbc_a (s : State) : Host.Outcome State Fault Refusal :=
  storeA .bc 8 s

/-- `LD B,n8`, 06 (R112). -/
def exec_ld_b_n8 (n8 : Byte) (s : State) : Host.Outcome State Fault Refusal :=
  (s.writeR8 .b n8).done 8

/-- `LD (a16),SP`, 08 (R133). -/
def exec_ld_ma16_sp (a16 : Word) (s : State) : Host.Outcome State Fault Refusal :=
  ((s.memWrite a16 (loByte s.sp)).memWrite (a16 + 1) (hiByte s.sp)).done 20

/-- `LD A,(BC)`, 0A (R116). -/
def exec_ld_a_mbc (s : State) : Host.Outcome State Fault Refusal :=
  loadA .bc 8 s

/-- `LD C,n8`, 0E (R112). -/
def exec_ld_c_n8 (n8 : Byte) (s : State) : Host.Outcome State Fault Refusal :=
  (s.writeR8 .c n8).done 8

/-- `LD DE,n16`, 11 (R130). -/
def exec_ld_de_n16 (n16 : Word) (s : State) : Host.Outcome State Fault Refusal :=
  (s.setR16 .de n16).done 12

/-- `LD (DE),A`, 12 (R119). -/
def exec_ld_mde_a (s : State) : Host.Outcome State Fault Refusal :=
  storeA .de 8 s

/-- `LD D,n8`, 16 (R112). -/
def exec_ld_d_n8 (n8 : Byte) (s : State) : Host.Outcome State Fault Refusal :=
  (s.writeR8 .d n8).done 8

/-- `LD A,(DE)`, 1A (R117). -/
def exec_ld_a_mde (s : State) : Host.Outcome State Fault Refusal :=
  loadA .de 8 s

/-- `LD E,n8`, 1E (R112). -/
def exec_ld_e_n8 (n8 : Byte) (s : State) : Host.Outcome State Fault Refusal :=
  (s.writeR8 .e n8).done 8

/-- `LD HL,n16`, 21 (R130). -/
def exec_ld_hl_n16 (n16 : Word) (s : State) : Host.Outcome State Fault Refusal :=
  (s.setR16 .hl n16).done 12

/-- `LD (HL+),A`, 22 (R122). -/
def exec_ld_mhli_a (s : State) : Host.Outcome State Fault Refusal :=
  storeA .hli 8 s

/-- `LD H,n8`, 26 (R112). -/
def exec_ld_h_n8 (n8 : Byte) (s : State) : Host.Outcome State Fault Refusal :=
  (s.writeR8 .h n8).done 8

/-- `LD A,(HL+)`, 2A (R120). -/
def exec_ld_a_mhli (s : State) : Host.Outcome State Fault Refusal :=
  loadA .hli 8 s

/-- `LD L,n8`, 2E (R112). -/
def exec_ld_l_n8 (n8 : Byte) (s : State) : Host.Outcome State Fault Refusal :=
  (s.writeR8 .l n8).done 8

/-- `LD SP,n16`, 31 (R130). -/
def exec_ld_sp_n16 (n16 : Word) (s : State) : Host.Outcome State Fault Refusal :=
  (s.setR16 .sp n16).done 12

/-- `LD (HL-),A`, 32 (R123). -/
def exec_ld_mhld_a (s : State) : Host.Outcome State Fault Refusal :=
  storeA .hld 8 s

/-- `LD (HL),n8`, 36 (R115). -/
def exec_ld_mhl_n8 (n8 : Byte) (s : State) : Host.Outcome State Fault Refusal :=
  (s.writeR8 .mhl n8).done 12

/-- `LD A,(HL-)`, 3A (R121). -/
def exec_ld_a_mhld (s : State) : Host.Outcome State Fault Refusal :=
  loadA .hld 8 s

/-- `LD A,n8`, 3E (R112). -/
def exec_ld_a_n8 (n8 : Byte) (s : State) : Host.Outcome State Fault Refusal :=
  (s.writeR8 .a n8).done 8

/-- `LD B,B`, 40 (R111). -/
def exec_ld_b_b (s : State) : Host.Outcome State Fault Refusal :=
  ldR8 .b .b 4 s

/-- `LD B,C`, 41 (R111). -/
def exec_ld_b_c (s : State) : Host.Outcome State Fault Refusal :=
  ldR8 .b .c 4 s

/-- `LD B,D`, 42 (R111). -/
def exec_ld_b_d (s : State) : Host.Outcome State Fault Refusal :=
  ldR8 .b .d 4 s

/-- `LD B,E`, 43 (R111). -/
def exec_ld_b_e (s : State) : Host.Outcome State Fault Refusal :=
  ldR8 .b .e 4 s

/-- `LD B,H`, 44 (R111). -/
def exec_ld_b_h (s : State) : Host.Outcome State Fault Refusal :=
  ldR8 .b .h 4 s

/-- `LD B,L`, 45 (R111). -/
def exec_ld_b_l (s : State) : Host.Outcome State Fault Refusal :=
  ldR8 .b .l 4 s

/-- `LD B,(HL)`, 46 (R113). -/
def exec_ld_b_mhl (s : State) : Host.Outcome State Fault Refusal :=
  ldR8 .b .mhl 8 s

/-- `LD B,A`, 47 (R111). -/
def exec_ld_b_a (s : State) : Host.Outcome State Fault Refusal :=
  ldR8 .b .a 4 s

/-- `LD C,B`, 48 (R111). -/
def exec_ld_c_b (s : State) : Host.Outcome State Fault Refusal :=
  ldR8 .c .b 4 s

/-- `LD C,C`, 49 (R111). -/
def exec_ld_c_c (s : State) : Host.Outcome State Fault Refusal :=
  ldR8 .c .c 4 s

/-- `LD C,D`, 4A (R111). -/
def exec_ld_c_d (s : State) : Host.Outcome State Fault Refusal :=
  ldR8 .c .d 4 s

/-- `LD C,E`, 4B (R111). -/
def exec_ld_c_e (s : State) : Host.Outcome State Fault Refusal :=
  ldR8 .c .e 4 s

/-- `LD C,H`, 4C (R111). -/
def exec_ld_c_h (s : State) : Host.Outcome State Fault Refusal :=
  ldR8 .c .h 4 s

/-- `LD C,L`, 4D (R111). -/
def exec_ld_c_l (s : State) : Host.Outcome State Fault Refusal :=
  ldR8 .c .l 4 s

/-- `LD C,(HL)`, 4E (R113). -/
def exec_ld_c_mhl (s : State) : Host.Outcome State Fault Refusal :=
  ldR8 .c .mhl 8 s

/-- `LD C,A`, 4F (R111). -/
def exec_ld_c_a (s : State) : Host.Outcome State Fault Refusal :=
  ldR8 .c .a 4 s

/-- `LD D,B`, 50 (R111). -/
def exec_ld_d_b (s : State) : Host.Outcome State Fault Refusal :=
  ldR8 .d .b 4 s

/-- `LD D,C`, 51 (R111). -/
def exec_ld_d_c (s : State) : Host.Outcome State Fault Refusal :=
  ldR8 .d .c 4 s

/-- `LD D,D`, 52 (R111). -/
def exec_ld_d_d (s : State) : Host.Outcome State Fault Refusal :=
  ldR8 .d .d 4 s

/-- `LD D,E`, 53 (R111). -/
def exec_ld_d_e (s : State) : Host.Outcome State Fault Refusal :=
  ldR8 .d .e 4 s

/-- `LD D,H`, 54 (R111). -/
def exec_ld_d_h (s : State) : Host.Outcome State Fault Refusal :=
  ldR8 .d .h 4 s

/-- `LD D,L`, 55 (R111). -/
def exec_ld_d_l (s : State) : Host.Outcome State Fault Refusal :=
  ldR8 .d .l 4 s

/-- `LD D,(HL)`, 56 (R113). -/
def exec_ld_d_mhl (s : State) : Host.Outcome State Fault Refusal :=
  ldR8 .d .mhl 8 s

/-- `LD D,A`, 57 (R111). -/
def exec_ld_d_a (s : State) : Host.Outcome State Fault Refusal :=
  ldR8 .d .a 4 s

/-- `LD E,B`, 58 (R111). -/
def exec_ld_e_b (s : State) : Host.Outcome State Fault Refusal :=
  ldR8 .e .b 4 s

/-- `LD E,C`, 59 (R111). -/
def exec_ld_e_c (s : State) : Host.Outcome State Fault Refusal :=
  ldR8 .e .c 4 s

/-- `LD E,D`, 5A (R111). -/
def exec_ld_e_d (s : State) : Host.Outcome State Fault Refusal :=
  ldR8 .e .d 4 s

/-- `LD E,E`, 5B (R111). -/
def exec_ld_e_e (s : State) : Host.Outcome State Fault Refusal :=
  ldR8 .e .e 4 s

/-- `LD E,H`, 5C (R111). -/
def exec_ld_e_h (s : State) : Host.Outcome State Fault Refusal :=
  ldR8 .e .h 4 s

/-- `LD E,L`, 5D (R111). -/
def exec_ld_e_l (s : State) : Host.Outcome State Fault Refusal :=
  ldR8 .e .l 4 s

/-- `LD E,(HL)`, 5E (R113). -/
def exec_ld_e_mhl (s : State) : Host.Outcome State Fault Refusal :=
  ldR8 .e .mhl 8 s

/-- `LD E,A`, 5F (R111). -/
def exec_ld_e_a (s : State) : Host.Outcome State Fault Refusal :=
  ldR8 .e .a 4 s

/-- `LD H,B`, 60 (R111). -/
def exec_ld_h_b (s : State) : Host.Outcome State Fault Refusal :=
  ldR8 .h .b 4 s

/-- `LD H,C`, 61 (R111). -/
def exec_ld_h_c (s : State) : Host.Outcome State Fault Refusal :=
  ldR8 .h .c 4 s

/-- `LD H,D`, 62 (R111). -/
def exec_ld_h_d (s : State) : Host.Outcome State Fault Refusal :=
  ldR8 .h .d 4 s

/-- `LD H,E`, 63 (R111). -/
def exec_ld_h_e (s : State) : Host.Outcome State Fault Refusal :=
  ldR8 .h .e 4 s

/-- `LD H,H`, 64 (R111). -/
def exec_ld_h_h (s : State) : Host.Outcome State Fault Refusal :=
  ldR8 .h .h 4 s

/-- `LD H,L`, 65 (R111). -/
def exec_ld_h_l (s : State) : Host.Outcome State Fault Refusal :=
  ldR8 .h .l 4 s

/-- `LD H,(HL)`, 66 (R113). -/
def exec_ld_h_mhl (s : State) : Host.Outcome State Fault Refusal :=
  ldR8 .h .mhl 8 s

/-- `LD H,A`, 67 (R111). -/
def exec_ld_h_a (s : State) : Host.Outcome State Fault Refusal :=
  ldR8 .h .a 4 s

/-- `LD L,B`, 68 (R111). -/
def exec_ld_l_b (s : State) : Host.Outcome State Fault Refusal :=
  ldR8 .l .b 4 s

/-- `LD L,C`, 69 (R111). -/
def exec_ld_l_c (s : State) : Host.Outcome State Fault Refusal :=
  ldR8 .l .c 4 s

/-- `LD L,D`, 6A (R111). -/
def exec_ld_l_d (s : State) : Host.Outcome State Fault Refusal :=
  ldR8 .l .d 4 s

/-- `LD L,E`, 6B (R111). -/
def exec_ld_l_e (s : State) : Host.Outcome State Fault Refusal :=
  ldR8 .l .e 4 s

/-- `LD L,H`, 6C (R111). -/
def exec_ld_l_h (s : State) : Host.Outcome State Fault Refusal :=
  ldR8 .l .h 4 s

/-- `LD L,L`, 6D (R111). -/
def exec_ld_l_l (s : State) : Host.Outcome State Fault Refusal :=
  ldR8 .l .l 4 s

/-- `LD L,(HL)`, 6E (R113). -/
def exec_ld_l_mhl (s : State) : Host.Outcome State Fault Refusal :=
  ldR8 .l .mhl 8 s

/-- `LD L,A`, 6F (R111). -/
def exec_ld_l_a (s : State) : Host.Outcome State Fault Refusal :=
  ldR8 .l .a 4 s

/-- `LD (HL),B`, 70 (R114). -/
def exec_ld_mhl_b (s : State) : Host.Outcome State Fault Refusal :=
  ldR8 .mhl .b 8 s

/-- `LD (HL),C`, 71 (R114). -/
def exec_ld_mhl_c (s : State) : Host.Outcome State Fault Refusal :=
  ldR8 .mhl .c 8 s

/-- `LD (HL),D`, 72 (R114). -/
def exec_ld_mhl_d (s : State) : Host.Outcome State Fault Refusal :=
  ldR8 .mhl .d 8 s

/-- `LD (HL),E`, 73 (R114). -/
def exec_ld_mhl_e (s : State) : Host.Outcome State Fault Refusal :=
  ldR8 .mhl .e 8 s

/-- `LD (HL),H`, 74 (R114). -/
def exec_ld_mhl_h (s : State) : Host.Outcome State Fault Refusal :=
  ldR8 .mhl .h 8 s

/-- `LD (HL),L`, 75 (R114). -/
def exec_ld_mhl_l (s : State) : Host.Outcome State Fault Refusal :=
  ldR8 .mhl .l 8 s

/-- `LD (HL),A`, 77 (R114). -/
def exec_ld_mhl_a (s : State) : Host.Outcome State Fault Refusal :=
  ldR8 .mhl .a 8 s

/-- `LD A,B`, 78 (R111). -/
def exec_ld_a_b (s : State) : Host.Outcome State Fault Refusal :=
  ldR8 .a .b 4 s

/-- `LD A,C`, 79 (R111). -/
def exec_ld_a_c (s : State) : Host.Outcome State Fault Refusal :=
  ldR8 .a .c 4 s

/-- `LD A,D`, 7A (R111). -/
def exec_ld_a_d (s : State) : Host.Outcome State Fault Refusal :=
  ldR8 .a .d 4 s

/-- `LD A,E`, 7B (R111). -/
def exec_ld_a_e (s : State) : Host.Outcome State Fault Refusal :=
  ldR8 .a .e 4 s

/-- `LD A,H`, 7C (R111). -/
def exec_ld_a_h (s : State) : Host.Outcome State Fault Refusal :=
  ldR8 .a .h 4 s

/-- `LD A,L`, 7D (R111). -/
def exec_ld_a_l (s : State) : Host.Outcome State Fault Refusal :=
  ldR8 .a .l 4 s

/-- `LD A,(HL)`, 7E (R113). -/
def exec_ld_a_mhl (s : State) : Host.Outcome State Fault Refusal :=
  ldR8 .a .mhl 8 s

/-- `LD A,A`, 7F (R111). -/
def exec_ld_a_a (s : State) : Host.Outcome State Fault Refusal :=
  ldR8 .a .a 4 s

/-- `LDH (a8),A`, E0 (R127). -/
def exec_ldh_ma8_a (a8 : Byte) (s : State) : Host.Outcome State Fault Refusal :=
  storeAAt (highPage a8) 12 s

/-- `LD (C),A`, E2 (R129). -/
def exec_ld_mc_a (s : State) : Host.Outcome State Fault Refusal :=
  storeAAt (highPage s.c) 8 s

/-- `LD (a16),A`, EA (R125). -/
def exec_ld_ma16_a (a16 : Word) (s : State) : Host.Outcome State Fault Refusal :=
  storeAAt a16 16 s

/-- `LDH A,(a8)`, F0 (R126). -/
def exec_ldh_a_ma8 (a8 : Byte) (s : State) : Host.Outcome State Fault Refusal :=
  loadAAt (highPage a8) 12 s

/-- `LD A,(C)`, F2 (R128). -/
def exec_ld_a_mc (s : State) : Host.Outcome State Fault Refusal :=
  loadAAt (highPage s.c) 8 s

/-- `LD HL,SP+e8`, F8 (R131). -/
def exec_ld_hl_sp_e8 (e8 : Byte) (s : State) : Host.Outcome State Fault Refusal :=
  ((s.set16 .hl (s.sp + sext16 e8)).setFlags (spDispFlags s.sp e8)).done 12

/-- `LD SP,HL`, F9 (R132). -/
def exec_ld_sp_hl (s : State) : Host.Outcome State Fault Refusal :=
  State.done { s with sp := s.get16 .hl } 8

/-- `LD A,(a16)`, FA (R124). -/
def exec_ld_a_ma16 (a16 : Word) (s : State) : Host.Outcome State Fault Refusal :=
  loadAAt a16 16 s

end Sys2Proof.Machine
end

