-- ==== Sys2Proof/Machine/Logic.lean ====
section
/-! DEFINITION. Logical and flag instructions (43_logical.md): the shared operations, then one meaning per instruction with its row's cycle total. -/

namespace Sys2Proof.Machine

/-- `CPL`, 2F (R163). -/
def exec_cpl (s : State) : Host.Outcome State Fault Refusal :=
  ((s.set8 .a (~~~s.a)).setFlags { s.flags with n := true, h := true }).done 4

/-- `SCF`, 37 (R164). -/
def exec_scf (s : State) : Host.Outcome State Fault Refusal :=
  (s.setFlags { s.flags with n := false, h := false, c := true }).done 4

/-- `CCF`, 3F (R165). -/
def exec_ccf (s : State) : Host.Outcome State Fault Refusal :=
  (s.setFlags { s.flags with n := false, h := false, c := !s.flags.c }).done 4

/-- `AND B`, A0 (R160). -/
def exec_and_b (s : State) : Host.Outcome State Fault Refusal :=
  aluA .and (.r8 .b) 4 s

/-- `AND C`, A1 (R160). -/
def exec_and_c (s : State) : Host.Outcome State Fault Refusal :=
  aluA .and (.r8 .c) 4 s

/-- `AND D`, A2 (R160). -/
def exec_and_d (s : State) : Host.Outcome State Fault Refusal :=
  aluA .and (.r8 .d) 4 s

/-- `AND E`, A3 (R160). -/
def exec_and_e (s : State) : Host.Outcome State Fault Refusal :=
  aluA .and (.r8 .e) 4 s

/-- `AND H`, A4 (R160). -/
def exec_and_h (s : State) : Host.Outcome State Fault Refusal :=
  aluA .and (.r8 .h) 4 s

/-- `AND L`, A5 (R160). -/
def exec_and_l (s : State) : Host.Outcome State Fault Refusal :=
  aluA .and (.r8 .l) 4 s

/-- `AND (HL)`, A6 (R160). -/
def exec_and_mhl (s : State) : Host.Outcome State Fault Refusal :=
  aluA .and (.r8 .mhl) 8 s

/-- `AND A`, A7 (R160). -/
def exec_and_a (s : State) : Host.Outcome State Fault Refusal :=
  aluA .and (.r8 .a) 4 s

/-- `XOR B`, A8 (R161). -/
def exec_xor_b (s : State) : Host.Outcome State Fault Refusal :=
  aluA .xor (.r8 .b) 4 s

/-- `XOR C`, A9 (R161). -/
def exec_xor_c (s : State) : Host.Outcome State Fault Refusal :=
  aluA .xor (.r8 .c) 4 s

/-- `XOR D`, AA (R161). -/
def exec_xor_d (s : State) : Host.Outcome State Fault Refusal :=
  aluA .xor (.r8 .d) 4 s

/-- `XOR E`, AB (R161). -/
def exec_xor_e (s : State) : Host.Outcome State Fault Refusal :=
  aluA .xor (.r8 .e) 4 s

/-- `XOR H`, AC (R161). -/
def exec_xor_h (s : State) : Host.Outcome State Fault Refusal :=
  aluA .xor (.r8 .h) 4 s

/-- `XOR L`, AD (R161). -/
def exec_xor_l (s : State) : Host.Outcome State Fault Refusal :=
  aluA .xor (.r8 .l) 4 s

/-- `XOR (HL)`, AE (R161). -/
def exec_xor_mhl (s : State) : Host.Outcome State Fault Refusal :=
  aluA .xor (.r8 .mhl) 8 s

/-- `XOR A`, AF (R161). -/
def exec_xor_a (s : State) : Host.Outcome State Fault Refusal :=
  aluA .xor (.r8 .a) 4 s

/-- `OR B`, B0 (R162). -/
def exec_or_b (s : State) : Host.Outcome State Fault Refusal :=
  aluA .or (.r8 .b) 4 s

/-- `OR C`, B1 (R162). -/
def exec_or_c (s : State) : Host.Outcome State Fault Refusal :=
  aluA .or (.r8 .c) 4 s

/-- `OR D`, B2 (R162). -/
def exec_or_d (s : State) : Host.Outcome State Fault Refusal :=
  aluA .or (.r8 .d) 4 s

/-- `OR E`, B3 (R162). -/
def exec_or_e (s : State) : Host.Outcome State Fault Refusal :=
  aluA .or (.r8 .e) 4 s

/-- `OR H`, B4 (R162). -/
def exec_or_h (s : State) : Host.Outcome State Fault Refusal :=
  aluA .or (.r8 .h) 4 s

/-- `OR L`, B5 (R162). -/
def exec_or_l (s : State) : Host.Outcome State Fault Refusal :=
  aluA .or (.r8 .l) 4 s

/-- `OR (HL)`, B6 (R162). -/
def exec_or_mhl (s : State) : Host.Outcome State Fault Refusal :=
  aluA .or (.r8 .mhl) 8 s

/-- `OR A`, B7 (R162). -/
def exec_or_a (s : State) : Host.Outcome State Fault Refusal :=
  aluA .or (.r8 .a) 4 s

/-- `AND n8`, E6 (R160). -/
def exec_and_n8 (n8 : Byte) (s : State) : Host.Outcome State Fault Refusal :=
  aluA .and (.n8 n8) 8 s

/-- `XOR n8`, EE (R161). -/
def exec_xor_n8 (n8 : Byte) (s : State) : Host.Outcome State Fault Refusal :=
  aluA .xor (.n8 n8) 8 s

/-- `OR n8`, F6 (R162). -/
def exec_or_n8 (n8 : Byte) (s : State) : Host.Outcome State Fault Refusal :=
  aluA .or (.n8 n8) 8 s

end Sys2Proof.Machine
end

