-- ==== Sys2Proof/Machine/Stack.lean ====
section
/-! DEFINITION. Stack instructions (48_stack.md): the shared operations, then one meaning per instruction with its row's cycle total. -/

namespace Sys2Proof.Machine

/-- POP: the pair takes the popped value; POP AF masks F (R272, R273). -/
def popR16 (p : R16Stk) (total : Nat) (s : State) : Host.Outcome State Fault Refusal :=
  let (v, s1) := s.pop16
  (s1.set16 (stkPair p) v).done total

/-- `POP BC`, C1 (R272). -/
def exec_pop_bc (s : State) : Host.Outcome State Fault Refusal :=
  popR16 .bc 12 s

/-- `PUSH BC`, C5 (R271). -/
def exec_push_bc (s : State) : Host.Outcome State Fault Refusal :=
  (s.push16 (s.get16 (stkPair .bc))).done 16

/-- `POP DE`, D1 (R272). -/
def exec_pop_de (s : State) : Host.Outcome State Fault Refusal :=
  popR16 .de 12 s

/-- `PUSH DE`, D5 (R271). -/
def exec_push_de (s : State) : Host.Outcome State Fault Refusal :=
  (s.push16 (s.get16 (stkPair .de))).done 16

/-- `POP HL`, E1 (R272). -/
def exec_pop_hl (s : State) : Host.Outcome State Fault Refusal :=
  popR16 .hl 12 s

/-- `PUSH HL`, E5 (R271). -/
def exec_push_hl (s : State) : Host.Outcome State Fault Refusal :=
  (s.push16 (s.get16 (stkPair .hl))).done 16

/-- `POP AF`, F1 (R273). -/
def exec_pop_af (s : State) : Host.Outcome State Fault Refusal :=
  popR16 .af 12 s

/-- `PUSH AF`, F5 (R271). -/
def exec_push_af (s : State) : Host.Outcome State Fault Refusal :=
  (s.push16 (s.get16 (stkPair .af))).done 16

end Sys2Proof.Machine
end

