-- ==== Sys2Proof/WellFormed.lean ====
section
/-! DEFINITION. Which terms of `Instr` are instructions. Every value of every operand field is legal (30_encoding.md R84,
R87), so the checks are about the slots: an undefined slot has no instruction (R82, R87), and the prefix is none (R88). -/

namespace Sys2Proof

/-- The opcode byte of an undefined marker, none for every other term (R87). -/
def Instr.undefinedByte : Instr → Option Byte
  | .undefined_d3 => some 0xD3
  | .undefined_db => some 0xDB
  | .undefined_dd => some 0xDD
  | .undefined_e3 => some 0xE3
  | .undefined_e4 => some 0xE4
  | .undefined_eb => some 0xEB
  | .undefined_ec => some 0xEC
  | .undefined_ed => some 0xED
  | .undefined_f4 => some 0xF4
  | .undefined_fc => some 0xFC
  | .undefined_fd => some 0xFD
  | _ => none

/-- The eleven undefined primary opcodes (R87). -/
def undefinedOpcodes : List Byte := [0xD3, 0xDB, 0xDD, 0xE3, 0xE4, 0xEB, 0xEC, 0xED, 0xF4, 0xFC, 0xFD]

/-- Whether a term is one of the eleven undefined markers. -/
def Instr.isUndefined (i : Instr) : Bool := i.undefinedByte.isSome

/-- Whether a term is the prefix marker. -/
def Instr.isPrefix : Instr → Bool
  | .prefix_cb => true
  | _ => false

/-- Why a term is no instruction. -/
inductive IllFormed where
  /-- An undefined slot (R87). -/
  | undefinedSlot (opcode : Byte)
  /-- "Primary opcode 0xCB is the prefix, not an instruction" (R88). -/
  | prefixAlone
deriving DecidableEq, Repr

/-- The check: none where the term is one of the 500 instructions. -/
def Instr.illFormed (i : Instr) : Option IllFormed :=
  match i.undefinedByte with
  | some op => some (.undefinedSlot op)
  | none => if i.isPrefix then some .prefixAlone else none

/-- One of the 500 defined instructions (00_scope.md R7). -/
def Instr.wellFormed (i : Instr) : Bool := i.illFormed.isNone

end Sys2Proof
end

