-- ==== Sys2Proof/Decode.lean ====
section
/-! DEFINITION. The decoder, by the fields of 30_encoding.md R81 and the maps of R85 and R86, total on any bytes (R92); the
encoder, from the opcode bytes of spec/opcode_table.json; and the host's `decodeTableWord`. -/

namespace Sys2Proof

/-! ## Selectors by number (R83) -/

def R8.ofField : Nat → R8
  | 0 => .b
  | 1 => .c
  | 2 => .d
  | 3 => .e
  | 4 => .h
  | 5 => .l
  | 6 => .mhl
  | _ => .a

def R16.ofField : Nat → R16
  | 0 => .bc
  | 1 => .de
  | 2 => .hl
  | _ => .sp

def R16Stk.ofField : Nat → R16Stk
  | 0 => .bc
  | 1 => .de
  | 2 => .hl
  | _ => .af

def R16Mem.ofField : Nat → R16Mem
  | 0 => .bc
  | 1 => .de
  | 2 => .hli
  | _ => .hld

def Cc.ofField : Nat → Cc
  | 0 => .nz
  | 1 => .z
  | 2 => .nc
  | _ => .c

def AluOp.ofField : Nat → AluOp
  | 0 => .add
  | 1 => .adc
  | 2 => .sub
  | 3 => .sbc
  | 4 => .and
  | 5 => .xor
  | 6 => .or
  | _ => .cp

def RotOp.ofField : Nat → RotOp
  | 0 => .rlc
  | 1 => .rrc
  | 2 => .rl
  | 3 => .rr
  | 4 => .sla
  | 5 => .sra
  | 6 => .swap
  | _ => .srl

/-! ## The rows of the maps, by selector (R85, R86) -/

/-- x=1: LD r8[y],r8[z]; the slot y=6, z=6 is HALT. -/
def Instr.ofLd : R8 → R8 → Instr
  | .b, .b => .ld_b_b
  | .b, .c => .ld_b_c
  | .b, .d => .ld_b_d
  | .b, .e => .ld_b_e
  | .b, .h => .ld_b_h
  | .b, .l => .ld_b_l
  | .b, .mhl => .ld_b_mhl
  | .b, .a => .ld_b_a
  | .c, .b => .ld_c_b
  | .c, .c => .ld_c_c
  | .c, .d => .ld_c_d
  | .c, .e => .ld_c_e
  | .c, .h => .ld_c_h
  | .c, .l => .ld_c_l
  | .c, .mhl => .ld_c_mhl
  | .c, .a => .ld_c_a
  | .d, .b => .ld_d_b
  | .d, .c => .ld_d_c
  | .d, .d => .ld_d_d
  | .d, .e => .ld_d_e
  | .d, .h => .ld_d_h
  | .d, .l => .ld_d_l
  | .d, .mhl => .ld_d_mhl
  | .d, .a => .ld_d_a
  | .e, .b => .ld_e_b
  | .e, .c => .ld_e_c
  | .e, .d => .ld_e_d
  | .e, .e => .ld_e_e
  | .e, .h => .ld_e_h
  | .e, .l => .ld_e_l
  | .e, .mhl => .ld_e_mhl
  | .e, .a => .ld_e_a
  | .h, .b => .ld_h_b
  | .h, .c => .ld_h_c
  | .h, .d => .ld_h_d
  | .h, .e => .ld_h_e
  | .h, .h => .ld_h_h
  | .h, .l => .ld_h_l
  | .h, .mhl => .ld_h_mhl
  | .h, .a => .ld_h_a
  | .l, .b => .ld_l_b
  | .l, .c => .ld_l_c
  | .l, .d => .ld_l_d
  | .l, .e => .ld_l_e
  | .l, .h => .ld_l_h
  | .l, .l => .ld_l_l
  | .l, .mhl => .ld_l_mhl
  | .l, .a => .ld_l_a
  | .mhl, .b => .ld_mhl_b
  | .mhl, .c => .ld_mhl_c
  | .mhl, .d => .ld_mhl_d
  | .mhl, .e => .ld_mhl_e
  | .mhl, .h => .ld_mhl_h
  | .mhl, .l => .ld_mhl_l
  | .mhl, .mhl => .halt
  | .mhl, .a => .ld_mhl_a
  | .a, .b => .ld_a_b
  | .a, .c => .ld_a_c
  | .a, .d => .ld_a_d
  | .a, .e => .ld_a_e
  | .a, .h => .ld_a_h
  | .a, .l => .ld_a_l
  | .a, .mhl => .ld_a_mhl
  | .a, .a => .ld_a_a

/-- x=2: alu[y] A,r8[z]. -/
def Instr.ofAlu : AluOp → R8 → Instr
  | .add, .b => .add_a_b
  | .add, .c => .add_a_c
  | .add, .d => .add_a_d
  | .add, .e => .add_a_e
  | .add, .h => .add_a_h
  | .add, .l => .add_a_l
  | .add, .mhl => .add_a_mhl
  | .add, .a => .add_a_a
  | .adc, .b => .adc_a_b
  | .adc, .c => .adc_a_c
  | .adc, .d => .adc_a_d
  | .adc, .e => .adc_a_e
  | .adc, .h => .adc_a_h
  | .adc, .l => .adc_a_l
  | .adc, .mhl => .adc_a_mhl
  | .adc, .a => .adc_a_a
  | .sub, .b => .sub_b
  | .sub, .c => .sub_c
  | .sub, .d => .sub_d
  | .sub, .e => .sub_e
  | .sub, .h => .sub_h
  | .sub, .l => .sub_l
  | .sub, .mhl => .sub_mhl
  | .sub, .a => .sub_a
  | .sbc, .b => .sbc_a_b
  | .sbc, .c => .sbc_a_c
  | .sbc, .d => .sbc_a_d
  | .sbc, .e => .sbc_a_e
  | .sbc, .h => .sbc_a_h
  | .sbc, .l => .sbc_a_l
  | .sbc, .mhl => .sbc_a_mhl
  | .sbc, .a => .sbc_a_a
  | .and, .b => .and_b
  | .and, .c => .and_c
  | .and, .d => .and_d
  | .and, .e => .and_e
  | .and, .h => .and_h
  | .and, .l => .and_l
  | .and, .mhl => .and_mhl
  | .and, .a => .and_a
  | .xor, .b => .xor_b
  | .xor, .c => .xor_c
  | .xor, .d => .xor_d
  | .xor, .e => .xor_e
  | .xor, .h => .xor_h
  | .xor, .l => .xor_l
  | .xor, .mhl => .xor_mhl
  | .xor, .a => .xor_a
  | .or, .b => .or_b
  | .or, .c => .or_c
  | .or, .d => .or_d
  | .or, .e => .or_e
  | .or, .h => .or_h
  | .or, .l => .or_l
  | .or, .mhl => .or_mhl
  | .or, .a => .or_a
  | .cp, .b => .cp_b
  | .cp, .c => .cp_c
  | .cp, .d => .cp_d
  | .cp, .e => .cp_e
  | .cp, .h => .cp_h
  | .cp, .l => .cp_l
  | .cp, .mhl => .cp_mhl
  | .cp, .a => .cp_a

/-- x=3, z=6: alu[y] A,n8. -/
def Instr.ofAluImm : AluOp → Byte → Instr
  | .add, n8 => .add_a_n8 n8
  | .adc, n8 => .adc_a_n8 n8
  | .sub, n8 => .sub_n8 n8
  | .sbc, n8 => .sbc_a_n8 n8
  | .and, n8 => .and_n8 n8
  | .xor, n8 => .xor_n8 n8
  | .or, n8 => .or_n8 n8
  | .cp, n8 => .cp_n8 n8

/-- x=0, z=4: INC r8[y]. -/
def Instr.ofInc8 : R8 → Instr
  | .b => .inc_b
  | .c => .inc_c
  | .d => .inc_d
  | .e => .inc_e
  | .h => .inc_h
  | .l => .inc_l
  | .mhl => .inc_mhl
  | .a => .inc_a

/-- x=0, z=5: DEC r8[y]. -/
def Instr.ofDec8 : R8 → Instr
  | .b => .dec_b
  | .c => .dec_c
  | .d => .dec_d
  | .e => .dec_e
  | .h => .dec_h
  | .l => .dec_l
  | .mhl => .dec_mhl
  | .a => .dec_a

/-- x=0, z=6: LD r8[y],n8. -/
def Instr.ofLdImm : R8 → Byte → Instr
  | .b, n8 => .ld_b_n8 n8
  | .c, n8 => .ld_c_n8 n8
  | .d, n8 => .ld_d_n8 n8
  | .e, n8 => .ld_e_n8 n8
  | .h, n8 => .ld_h_n8 n8
  | .l, n8 => .ld_l_n8 n8
  | .mhl, n8 => .ld_mhl_n8 n8
  | .a, n8 => .ld_a_n8 n8

/-- x=0, z=1, q=0: LD r16[p],n16. -/
def Instr.ofLd16 : R16 → Word → Instr
  | .bc, n16 => .ld_bc_n16 n16
  | .de, n16 => .ld_de_n16 n16
  | .hl, n16 => .ld_hl_n16 n16
  | .sp, n16 => .ld_sp_n16 n16

/-- x=0, z=1, q=1: ADD HL,r16[p]. -/
def Instr.ofAddHl : R16 → Instr
  | .bc => .add_hl_bc
  | .de => .add_hl_de
  | .hl => .add_hl_hl
  | .sp => .add_hl_sp

/-- x=0, z=2, q=0: LD (r16mem[p]),A. -/
def Instr.ofStoreA : R16Mem → Instr
  | .bc => .ld_mbc_a
  | .de => .ld_mde_a
  | .hli => .ld_mhli_a
  | .hld => .ld_mhld_a

/-- x=0, z=2, q=1: LD A,(r16mem[p]). -/
def Instr.ofLoadA : R16Mem → Instr
  | .bc => .ld_a_mbc
  | .de => .ld_a_mde
  | .hli => .ld_a_mhli
  | .hld => .ld_a_mhld

/-- x=0, z=3, q=0: INC r16[p]. -/
def Instr.ofInc16 : R16 → Instr
  | .bc => .inc_bc
  | .de => .inc_de
  | .hl => .inc_hl
  | .sp => .inc_sp

/-- x=0, z=3, q=1: DEC r16[p]. -/
def Instr.ofDec16 : R16 → Instr
  | .bc => .dec_bc
  | .de => .dec_de
  | .hl => .dec_hl
  | .sp => .dec_sp

/-- x=0, z=0, y=4..7: JR cc,e8. -/
def Instr.ofJr : Cc → Byte → Instr
  | .nz, e8 => .jr_nz_e8 e8
  | .z, e8 => .jr_z_e8 e8
  | .nc, e8 => .jr_nc_e8 e8
  | .c, e8 => .jr_c_e8 e8

/-- x=3, z=0, y=0..3: RET cc. -/
def Instr.ofRet : Cc → Instr
  | .nz => .ret_nz
  | .z => .ret_z
  | .nc => .ret_nc
  | .c => .ret_c

/-- x=3, z=2, y=0..3: JP cc,a16. -/
def Instr.ofJp : Cc → Word → Instr
  | .nz, a16 => .jp_nz_a16 a16
  | .z, a16 => .jp_z_a16 a16
  | .nc, a16 => .jp_nc_a16 a16
  | .c, a16 => .jp_c_a16 a16

/-- x=3, z=4, y=0..3: CALL cc,a16. -/
def Instr.ofCall : Cc → Word → Instr
  | .nz, a16 => .call_nz_a16 a16
  | .z, a16 => .call_z_a16 a16
  | .nc, a16 => .call_nc_a16 a16
  | .c, a16 => .call_c_a16 a16

/-- x=3, z=5, q=0: PUSH r16stk[p]. -/
def Instr.ofPush : R16Stk → Instr
  | .bc => .push_bc
  | .de => .push_de
  | .hl => .push_hl
  | .af => .push_af

/-- x=3, z=1, q=0: POP r16stk[p]. -/
def Instr.ofPop : R16Stk → Instr
  | .bc => .pop_bc
  | .de => .pop_de
  | .hl => .pop_hl
  | .af => .pop_af

/-- x=3, z=7: RST y * 8. -/
def Instr.ofRst : Fin 8 → Instr
  | 0 => .rst_00
  | 1 => .rst_08
  | 2 => .rst_10
  | 3 => .rst_18
  | 4 => .rst_20
  | 5 => .rst_28
  | 6 => .rst_30
  | 7 => .rst_38

/-- CB x=0: rot[y] r8[z]. -/
def Instr.ofRot : RotOp → R8 → Instr
  | .rlc, .b => .rlc_b
  | .rlc, .c => .rlc_c
  | .rlc, .d => .rlc_d
  | .rlc, .e => .rlc_e
  | .rlc, .h => .rlc_h
  | .rlc, .l => .rlc_l
  | .rlc, .mhl => .rlc_mhl
  | .rlc, .a => .rlc_a
  | .rrc, .b => .rrc_b
  | .rrc, .c => .rrc_c
  | .rrc, .d => .rrc_d
  | .rrc, .e => .rrc_e
  | .rrc, .h => .rrc_h
  | .rrc, .l => .rrc_l
  | .rrc, .mhl => .rrc_mhl
  | .rrc, .a => .rrc_a
  | .rl, .b => .rl_b
  | .rl, .c => .rl_c
  | .rl, .d => .rl_d
  | .rl, .e => .rl_e
  | .rl, .h => .rl_h
  | .rl, .l => .rl_l
  | .rl, .mhl => .rl_mhl
  | .rl, .a => .rl_a
  | .rr, .b => .rr_b
  | .rr, .c => .rr_c
  | .rr, .d => .rr_d
  | .rr, .e => .rr_e
  | .rr, .h => .rr_h
  | .rr, .l => .rr_l
  | .rr, .mhl => .rr_mhl
  | .rr, .a => .rr_a
  | .sla, .b => .sla_b
  | .sla, .c => .sla_c
  | .sla, .d => .sla_d
  | .sla, .e => .sla_e
  | .sla, .h => .sla_h
  | .sla, .l => .sla_l
  | .sla, .mhl => .sla_mhl
  | .sla, .a => .sla_a
  | .sra, .b => .sra_b
  | .sra, .c => .sra_c
  | .sra, .d => .sra_d
  | .sra, .e => .sra_e
  | .sra, .h => .sra_h
  | .sra, .l => .sra_l
  | .sra, .mhl => .sra_mhl
  | .sra, .a => .sra_a
  | .swap, .b => .swap_b
  | .swap, .c => .swap_c
  | .swap, .d => .swap_d
  | .swap, .e => .swap_e
  | .swap, .h => .swap_h
  | .swap, .l => .swap_l
  | .swap, .mhl => .swap_mhl
  | .swap, .a => .swap_a
  | .srl, .b => .srl_b
  | .srl, .c => .srl_c
  | .srl, .d => .srl_d
  | .srl, .e => .srl_e
  | .srl, .h => .srl_h
  | .srl, .l => .srl_l
  | .srl, .mhl => .srl_mhl
  | .srl, .a => .srl_a

/-- CB x=1: BIT y,r8[z]. -/
def Instr.ofBit : Fin 8 → R8 → Instr
  | 0, .b => .bit_0_b
  | 0, .c => .bit_0_c
  | 0, .d => .bit_0_d
  | 0, .e => .bit_0_e
  | 0, .h => .bit_0_h
  | 0, .l => .bit_0_l
  | 0, .mhl => .bit_0_mhl
  | 0, .a => .bit_0_a
  | 1, .b => .bit_1_b
  | 1, .c => .bit_1_c
  | 1, .d => .bit_1_d
  | 1, .e => .bit_1_e
  | 1, .h => .bit_1_h
  | 1, .l => .bit_1_l
  | 1, .mhl => .bit_1_mhl
  | 1, .a => .bit_1_a
  | 2, .b => .bit_2_b
  | 2, .c => .bit_2_c
  | 2, .d => .bit_2_d
  | 2, .e => .bit_2_e
  | 2, .h => .bit_2_h
  | 2, .l => .bit_2_l
  | 2, .mhl => .bit_2_mhl
  | 2, .a => .bit_2_a
  | 3, .b => .bit_3_b
  | 3, .c => .bit_3_c
  | 3, .d => .bit_3_d
  | 3, .e => .bit_3_e
  | 3, .h => .bit_3_h
  | 3, .l => .bit_3_l
  | 3, .mhl => .bit_3_mhl
  | 3, .a => .bit_3_a
  | 4, .b => .bit_4_b
  | 4, .c => .bit_4_c
  | 4, .d => .bit_4_d
  | 4, .e => .bit_4_e
  | 4, .h => .bit_4_h
  | 4, .l => .bit_4_l
  | 4, .mhl => .bit_4_mhl
  | 4, .a => .bit_4_a
  | 5, .b => .bit_5_b
  | 5, .c => .bit_5_c
  | 5, .d => .bit_5_d
  | 5, .e => .bit_5_e
  | 5, .h => .bit_5_h
  | 5, .l => .bit_5_l
  | 5, .mhl => .bit_5_mhl
  | 5, .a => .bit_5_a
  | 6, .b => .bit_6_b
  | 6, .c => .bit_6_c
  | 6, .d => .bit_6_d
  | 6, .e => .bit_6_e
  | 6, .h => .bit_6_h
  | 6, .l => .bit_6_l
  | 6, .mhl => .bit_6_mhl
  | 6, .a => .bit_6_a
  | 7, .b => .bit_7_b
  | 7, .c => .bit_7_c
  | 7, .d => .bit_7_d
  | 7, .e => .bit_7_e
  | 7, .h => .bit_7_h
  | 7, .l => .bit_7_l
  | 7, .mhl => .bit_7_mhl
  | 7, .a => .bit_7_a

/-- CB x=2: RES y,r8[z]. -/
def Instr.ofRes : Fin 8 → R8 → Instr
  | 0, .b => .res_0_b
  | 0, .c => .res_0_c
  | 0, .d => .res_0_d
  | 0, .e => .res_0_e
  | 0, .h => .res_0_h
  | 0, .l => .res_0_l
  | 0, .mhl => .res_0_mhl
  | 0, .a => .res_0_a
  | 1, .b => .res_1_b
  | 1, .c => .res_1_c
  | 1, .d => .res_1_d
  | 1, .e => .res_1_e
  | 1, .h => .res_1_h
  | 1, .l => .res_1_l
  | 1, .mhl => .res_1_mhl
  | 1, .a => .res_1_a
  | 2, .b => .res_2_b
  | 2, .c => .res_2_c
  | 2, .d => .res_2_d
  | 2, .e => .res_2_e
  | 2, .h => .res_2_h
  | 2, .l => .res_2_l
  | 2, .mhl => .res_2_mhl
  | 2, .a => .res_2_a
  | 3, .b => .res_3_b
  | 3, .c => .res_3_c
  | 3, .d => .res_3_d
  | 3, .e => .res_3_e
  | 3, .h => .res_3_h
  | 3, .l => .res_3_l
  | 3, .mhl => .res_3_mhl
  | 3, .a => .res_3_a
  | 4, .b => .res_4_b
  | 4, .c => .res_4_c
  | 4, .d => .res_4_d
  | 4, .e => .res_4_e
  | 4, .h => .res_4_h
  | 4, .l => .res_4_l
  | 4, .mhl => .res_4_mhl
  | 4, .a => .res_4_a
  | 5, .b => .res_5_b
  | 5, .c => .res_5_c
  | 5, .d => .res_5_d
  | 5, .e => .res_5_e
  | 5, .h => .res_5_h
  | 5, .l => .res_5_l
  | 5, .mhl => .res_5_mhl
  | 5, .a => .res_5_a
  | 6, .b => .res_6_b
  | 6, .c => .res_6_c
  | 6, .d => .res_6_d
  | 6, .e => .res_6_e
  | 6, .h => .res_6_h
  | 6, .l => .res_6_l
  | 6, .mhl => .res_6_mhl
  | 6, .a => .res_6_a
  | 7, .b => .res_7_b
  | 7, .c => .res_7_c
  | 7, .d => .res_7_d
  | 7, .e => .res_7_e
  | 7, .h => .res_7_h
  | 7, .l => .res_7_l
  | 7, .mhl => .res_7_mhl
  | 7, .a => .res_7_a

/-- CB x=3: SET y,r8[z]. -/
def Instr.ofSet : Fin 8 → R8 → Instr
  | 0, .b => .set_0_b
  | 0, .c => .set_0_c
  | 0, .d => .set_0_d
  | 0, .e => .set_0_e
  | 0, .h => .set_0_h
  | 0, .l => .set_0_l
  | 0, .mhl => .set_0_mhl
  | 0, .a => .set_0_a
  | 1, .b => .set_1_b
  | 1, .c => .set_1_c
  | 1, .d => .set_1_d
  | 1, .e => .set_1_e
  | 1, .h => .set_1_h
  | 1, .l => .set_1_l
  | 1, .mhl => .set_1_mhl
  | 1, .a => .set_1_a
  | 2, .b => .set_2_b
  | 2, .c => .set_2_c
  | 2, .d => .set_2_d
  | 2, .e => .set_2_e
  | 2, .h => .set_2_h
  | 2, .l => .set_2_l
  | 2, .mhl => .set_2_mhl
  | 2, .a => .set_2_a
  | 3, .b => .set_3_b
  | 3, .c => .set_3_c
  | 3, .d => .set_3_d
  | 3, .e => .set_3_e
  | 3, .h => .set_3_h
  | 3, .l => .set_3_l
  | 3, .mhl => .set_3_mhl
  | 3, .a => .set_3_a
  | 4, .b => .set_4_b
  | 4, .c => .set_4_c
  | 4, .d => .set_4_d
  | 4, .e => .set_4_e
  | 4, .h => .set_4_h
  | 4, .l => .set_4_l
  | 4, .mhl => .set_4_mhl
  | 4, .a => .set_4_a
  | 5, .b => .set_5_b
  | 5, .c => .set_5_c
  | 5, .d => .set_5_d
  | 5, .e => .set_5_e
  | 5, .h => .set_5_h
  | 5, .l => .set_5_l
  | 5, .mhl => .set_5_mhl
  | 5, .a => .set_5_a
  | 6, .b => .set_6_b
  | 6, .c => .set_6_c
  | 6, .d => .set_6_d
  | 6, .e => .set_6_e
  | 6, .h => .set_6_h
  | 6, .l => .set_6_l
  | 6, .mhl => .set_6_mhl
  | 6, .a => .set_6_a
  | 7, .b => .set_7_b
  | 7, .c => .set_7_c
  | 7, .d => .set_7_d
  | 7, .e => .set_7_e
  | 7, .h => .set_7_h
  | 7, .l => .set_7_l
  | 7, .mhl => .set_7_mhl
  | 7, .a => .set_7_a

/-! ## The primary map by quadrant (R85) -/

/-- x=0. -/
def decodeX0 (op b1 : Byte) (n16 : Word) : Instr :=
  let y := fieldY op
  let p := fieldP op
  match fieldZ op with
  | 0 =>
    match y with
    | 0 => .nop
    | 1 => .ld_ma16_sp n16
    | 2 => .stop
    | 3 => .jr_e8 b1
    | _ => .ofJr (Cc.ofField (y - 4)) b1
  | 1 => if fieldQ op = 0 then .ofLd16 (R16.ofField p) n16 else .ofAddHl (R16.ofField p)
  | 2 => if fieldQ op = 0 then .ofStoreA (R16Mem.ofField p) else .ofLoadA (R16Mem.ofField p)
  | 3 => if fieldQ op = 0 then .ofInc16 (R16.ofField p) else .ofDec16 (R16.ofField p)
  | 4 => .ofInc8 (R8.ofField y)
  | 5 => .ofDec8 (R8.ofField y)
  | 6 => .ofLdImm (R8.ofField y) b1
  | _ =>
    match y with
    | 0 => .rlca
    | 1 => .rrca
    | 2 => .rla
    | 3 => .rra
    | 4 => .daa
    | 5 => .cpl
    | 6 => .scf
    | _ => .ccf

/-- The CB map (R86). -/
def decodeCb (op2 : Byte) : Instr :=
  let y := fieldY op2
  let r := R8.ofField (fieldZ op2)
  match fieldX op2 with
  | 0 => .ofRot (RotOp.ofField y) r
  | 1 => .ofBit (Fin.ofNat 8 y) r
  | 2 => .ofRes (Fin.ofNat 8 y) r
  | _ => .ofSet (Fin.ofNat 8 y) r

/-- x=3; the slot 0xCB reads the CB map at the next byte (R88). -/
def decodeX3 (op b1 : Byte) (n16 : Word) : Instr :=
  let y := fieldY op
  let p := fieldP op
  match fieldZ op with
  | 0 =>
    match y with
    | 4 => .ldh_ma8_a b1
    | 5 => .add_sp_e8 b1
    | 6 => .ldh_a_ma8 b1
    | 7 => .ld_hl_sp_e8 b1
    | _ => .ofRet (Cc.ofField y)
  | 1 =>
    if fieldQ op = 0 then .ofPop (R16Stk.ofField p)
    else
      match p with
      | 0 => .ret
      | 1 => .reti
      | 2 => .jp_hl
      | _ => .ld_sp_hl
  | 2 =>
    match y with
    | 4 => .ld_mc_a
    | 5 => .ld_ma16_a n16
    | 6 => .ld_a_mc
    | 7 => .ld_a_ma16 n16
    | _ => .ofJp (Cc.ofField y) n16
  | 3 =>
    match y with
    | 0 => .jp_a16 n16
    | 1 => decodeCb b1
    | 2 => .undefined_d3
    | 3 => .undefined_db
    | 4 => .undefined_e3
    | 5 => .undefined_eb
    | 6 => .di
    | _ => .ei
  | 4 =>
    match y with
    | 4 => .undefined_e4
    | 5 => .undefined_ec
    | 6 => .undefined_f4
    | 7 => .undefined_fc
    | _ => .ofCall (Cc.ofField y) n16
  | 5 =>
    if fieldQ op = 0 then .ofPush (R16Stk.ofField p)
    else
      match p with
      | 0 => .call_a16 n16
      | 1 => .undefined_dd
      | 2 => .undefined_ed
      | _ => .undefined_fd
  | 6 => .ofAluImm (AluOp.ofField y) b1
  | _ => .ofRst (Fin.ofNat 8 y)

/-- The descriptor or marker an opcode byte selects, with the two bytes that follow it; a byte the instruction does not
have is not looked at. Total (R92). -/
def decodeInstr (op b1 b2 : Byte) : Instr :=
  let n16 := ofBytes b2 b1
  match fieldX op with
  | 0 => decodeX0 op b1 n16
  | 1 => .ofLd (R8.ofField (fieldY op)) (R8.ofField (fieldZ op))
  | 2 => .ofAlu (AluOp.ofField (fieldY op)) (R8.ofField (fieldZ op))
  | _ => decodeX3 op b1 n16

/-- How many bytes the core reads after the opcode byte: the CB opcode or the immediate, told from the opcode byte alone
(R80, R82, R85's second grid). STOP's skipped byte is not read (49_system.md R282). -/
def operandBytes (op : Byte) : Nat :=
  let y := fieldY op
  match fieldX op with
  | 0 =>
    match fieldZ op with
    | 0 => if y = 1 then 2 else if y = 0 ∨ y = 2 then 0 else 1
    | 1 => if fieldQ op = 0 then 2 else 0
    | 6 => 1
    | _ => 0
  | 1 => 0
  | 2 => 0
  | _ =>
    match fieldZ op with
    | 0 => if 4 ≤ y then 1 else 0
    | 2 => if y < 4 ∨ y = 5 ∨ y = 7 then 2 else 0
    | 3 => if y = 0 then 2 else if y = 1 then 1 else 0
    | 4 => if y < 4 then 2 else 0
    | 5 => if y = 1 then 2 else 0
    | 6 => 1
    | _ => 0

/-! ## The decoder over bytes -/

/-- Why a list of bytes holds no instruction. -/
inductive DecodeError where
  /-- There is no byte. -/
  | noBytes
  /-- The opcode needs more bytes than there are (R80). -/
  | cutShort (opcode : Byte)
deriving DecidableEq, Repr

/-- Reads one instruction from the front of a list of bytes and gives the bytes after it. 0xCB with no byte after it is
the prefix marker (R88, log entry 9). STOP takes the byte it skips with it, whatever it is, where there is one (R282). -/
def decode (sl : StopLength) : List Byte → Except DecodeError (Instr × List Byte)
  | [] => .error .noBytes
  | op :: rest =>
    if operandBytes op ≤ rest.length then
      let i := decodeInstr op (rest.getD 0 0) (rest.getD 1 0)
      let rest' := rest.drop (operandBytes op)
      .ok (i, if op = 0x10 then rest'.drop (stopSkip sl) else rest')
    else if op = 0xCB then .ok (.prefix_cb, rest)
    else .error (.cutShort op)

/-! ## The encoder -/

/-- The bytes of an instruction in fetch order: the opcode bytes of its table row, then its immediate, low byte first
(R84). STOP's skipped byte is "conventionally 0x00" (R282). -/
def encode (sl : StopLength) (i : Instr) : List Byte :=
  match i with
  | .nop => [0x00]
  | .ld_bc_n16 n16 => [0x01, loByte n16, hiByte n16]
  | .ld_mbc_a => [0x02]
  | .inc_bc => [0x03]
  | .inc_b => [0x04]
  | .dec_b => [0x05]
  | .ld_b_n8 n8 => [0x06, n8]
  | .rlca => [0x07]
  | .ld_ma16_sp a16 => [0x08, loByte a16, hiByte a16]
  | .add_hl_bc => [0x09]
  | .ld_a_mbc => [0x0A]
  | .dec_bc => [0x0B]
  | .inc_c => [0x0C]
  | .dec_c => [0x0D]
  | .ld_c_n8 n8 => [0x0E, n8]
  | .rrca => [0x0F]
  | .stop => 0x10 :: List.replicate (stopSkip sl) 0x00
  | .ld_de_n16 n16 => [0x11, loByte n16, hiByte n16]
  | .ld_mde_a => [0x12]
  | .inc_de => [0x13]
  | .inc_d => [0x14]
  | .dec_d => [0x15]
  | .ld_d_n8 n8 => [0x16, n8]
  | .rla => [0x17]
  | .jr_e8 e8 => [0x18, e8]
  | .add_hl_de => [0x19]
  | .ld_a_mde => [0x1A]
  | .dec_de => [0x1B]
  | .inc_e => [0x1C]
  | .dec_e => [0x1D]
  | .ld_e_n8 n8 => [0x1E, n8]
  | .rra => [0x1F]
  | .jr_nz_e8 e8 => [0x20, e8]
  | .ld_hl_n16 n16 => [0x21, loByte n16, hiByte n16]
  | .ld_mhli_a => [0x22]
  | .inc_hl => [0x23]
  | .inc_h => [0x24]
  | .dec_h => [0x25]
  | .ld_h_n8 n8 => [0x26, n8]
  | .daa => [0x27]
  | .jr_z_e8 e8 => [0x28, e8]
  | .add_hl_hl => [0x29]
  | .ld_a_mhli => [0x2A]
  | .dec_hl => [0x2B]
  | .inc_l => [0x2C]
  | .dec_l => [0x2D]
  | .ld_l_n8 n8 => [0x2E, n8]
  | .cpl => [0x2F]
  | .jr_nc_e8 e8 => [0x30, e8]
  | .ld_sp_n16 n16 => [0x31, loByte n16, hiByte n16]
  | .ld_mhld_a => [0x32]
  | .inc_sp => [0x33]
  | .inc_mhl => [0x34]
  | .dec_mhl => [0x35]
  | .ld_mhl_n8 n8 => [0x36, n8]
  | .scf => [0x37]
  | .jr_c_e8 e8 => [0x38, e8]
  | .add_hl_sp => [0x39]
  | .ld_a_mhld => [0x3A]
  | .dec_sp => [0x3B]
  | .inc_a => [0x3C]
  | .dec_a => [0x3D]
  | .ld_a_n8 n8 => [0x3E, n8]
  | .ccf => [0x3F]
  | .ld_b_b => [0x40]
  | .ld_b_c => [0x41]
  | .ld_b_d => [0x42]
  | .ld_b_e => [0x43]
  | .ld_b_h => [0x44]
  | .ld_b_l => [0x45]
  | .ld_b_mhl => [0x46]
  | .ld_b_a => [0x47]
  | .ld_c_b => [0x48]
  | .ld_c_c => [0x49]
  | .ld_c_d => [0x4A]
  | .ld_c_e => [0x4B]
  | .ld_c_h => [0x4C]
  | .ld_c_l => [0x4D]
  | .ld_c_mhl => [0x4E]
  | .ld_c_a => [0x4F]
  | .ld_d_b => [0x50]
  | .ld_d_c => [0x51]
  | .ld_d_d => [0x52]
  | .ld_d_e => [0x53]
  | .ld_d_h => [0x54]
  | .ld_d_l => [0x55]
  | .ld_d_mhl => [0x56]
  | .ld_d_a => [0x57]
  | .ld_e_b => [0x58]
  | .ld_e_c => [0x59]
  | .ld_e_d => [0x5A]
  | .ld_e_e => [0x5B]
  | .ld_e_h => [0x5C]
  | .ld_e_l => [0x5D]
  | .ld_e_mhl => [0x5E]
  | .ld_e_a => [0x5F]
  | .ld_h_b => [0x60]
  | .ld_h_c => [0x61]
  | .ld_h_d => [0x62]
  | .ld_h_e => [0x63]
  | .ld_h_h => [0x64]
  | .ld_h_l => [0x65]
  | .ld_h_mhl => [0x66]
  | .ld_h_a => [0x67]
  | .ld_l_b => [0x68]
  | .ld_l_c => [0x69]
  | .ld_l_d => [0x6A]
  | .ld_l_e => [0x6B]
  | .ld_l_h => [0x6C]
  | .ld_l_l => [0x6D]
  | .ld_l_mhl => [0x6E]
  | .ld_l_a => [0x6F]
  | .ld_mhl_b => [0x70]
  | .ld_mhl_c => [0x71]
  | .ld_mhl_d => [0x72]
  | .ld_mhl_e => [0x73]
  | .ld_mhl_h => [0x74]
  | .ld_mhl_l => [0x75]
  | .halt => [0x76]
  | .ld_mhl_a => [0x77]
  | .ld_a_b => [0x78]
  | .ld_a_c => [0x79]
  | .ld_a_d => [0x7A]
  | .ld_a_e => [0x7B]
  | .ld_a_h => [0x7C]
  | .ld_a_l => [0x7D]
  | .ld_a_mhl => [0x7E]
  | .ld_a_a => [0x7F]
  | .add_a_b => [0x80]
  | .add_a_c => [0x81]
  | .add_a_d => [0x82]
  | .add_a_e => [0x83]
  | .add_a_h => [0x84]
  | .add_a_l => [0x85]
  | .add_a_mhl => [0x86]
  | .add_a_a => [0x87]
  | .adc_a_b => [0x88]
  | .adc_a_c => [0x89]
  | .adc_a_d => [0x8A]
  | .adc_a_e => [0x8B]
  | .adc_a_h => [0x8C]
  | .adc_a_l => [0x8D]
  | .adc_a_mhl => [0x8E]
  | .adc_a_a => [0x8F]
  | .sub_b => [0x90]
  | .sub_c => [0x91]
  | .sub_d => [0x92]
  | .sub_e => [0x93]
  | .sub_h => [0x94]
  | .sub_l => [0x95]
  | .sub_mhl => [0x96]
  | .sub_a => [0x97]
  | .sbc_a_b => [0x98]
  | .sbc_a_c => [0x99]
  | .sbc_a_d => [0x9A]
  | .sbc_a_e => [0x9B]
  | .sbc_a_h => [0x9C]
  | .sbc_a_l => [0x9D]
  | .sbc_a_mhl => [0x9E]
  | .sbc_a_a => [0x9F]
  | .and_b => [0xA0]
  | .and_c => [0xA1]
  | .and_d => [0xA2]
  | .and_e => [0xA3]
  | .and_h => [0xA4]
  | .and_l => [0xA5]
  | .and_mhl => [0xA6]
  | .and_a => [0xA7]
  | .xor_b => [0xA8]
  | .xor_c => [0xA9]
  | .xor_d => [0xAA]
  | .xor_e => [0xAB]
  | .xor_h => [0xAC]
  | .xor_l => [0xAD]
  | .xor_mhl => [0xAE]
  | .xor_a => [0xAF]
  | .or_b => [0xB0]
  | .or_c => [0xB1]
  | .or_d => [0xB2]
  | .or_e => [0xB3]
  | .or_h => [0xB4]
  | .or_l => [0xB5]
  | .or_mhl => [0xB6]
  | .or_a => [0xB7]
  | .cp_b => [0xB8]
  | .cp_c => [0xB9]
  | .cp_d => [0xBA]
  | .cp_e => [0xBB]
  | .cp_h => [0xBC]
  | .cp_l => [0xBD]
  | .cp_mhl => [0xBE]
  | .cp_a => [0xBF]
  | .ret_nz => [0xC0]
  | .pop_bc => [0xC1]
  | .jp_nz_a16 a16 => [0xC2, loByte a16, hiByte a16]
  | .jp_a16 a16 => [0xC3, loByte a16, hiByte a16]
  | .call_nz_a16 a16 => [0xC4, loByte a16, hiByte a16]
  | .push_bc => [0xC5]
  | .add_a_n8 n8 => [0xC6, n8]
  | .rst_00 => [0xC7]
  | .ret_z => [0xC8]
  | .ret => [0xC9]
  | .jp_z_a16 a16 => [0xCA, loByte a16, hiByte a16]
  | .prefix_cb => [0xCB]
  | .call_z_a16 a16 => [0xCC, loByte a16, hiByte a16]
  | .call_a16 a16 => [0xCD, loByte a16, hiByte a16]
  | .adc_a_n8 n8 => [0xCE, n8]
  | .rst_08 => [0xCF]
  | .ret_nc => [0xD0]
  | .pop_de => [0xD1]
  | .jp_nc_a16 a16 => [0xD2, loByte a16, hiByte a16]
  | .undefined_d3 => [0xD3]
  | .call_nc_a16 a16 => [0xD4, loByte a16, hiByte a16]
  | .push_de => [0xD5]
  | .sub_n8 n8 => [0xD6, n8]
  | .rst_10 => [0xD7]
  | .ret_c => [0xD8]
  | .reti => [0xD9]
  | .jp_c_a16 a16 => [0xDA, loByte a16, hiByte a16]
  | .undefined_db => [0xDB]
  | .call_c_a16 a16 => [0xDC, loByte a16, hiByte a16]
  | .undefined_dd => [0xDD]
  | .sbc_a_n8 n8 => [0xDE, n8]
  | .rst_18 => [0xDF]
  | .ldh_ma8_a a8 => [0xE0, a8]
  | .pop_hl => [0xE1]
  | .ld_mc_a => [0xE2]
  | .undefined_e3 => [0xE3]
  | .undefined_e4 => [0xE4]
  | .push_hl => [0xE5]
  | .and_n8 n8 => [0xE6, n8]
  | .rst_20 => [0xE7]
  | .add_sp_e8 e8 => [0xE8, e8]
  | .jp_hl => [0xE9]
  | .ld_ma16_a a16 => [0xEA, loByte a16, hiByte a16]
  | .undefined_eb => [0xEB]
  | .undefined_ec => [0xEC]
  | .undefined_ed => [0xED]
  | .xor_n8 n8 => [0xEE, n8]
  | .rst_28 => [0xEF]
  | .ldh_a_ma8 a8 => [0xF0, a8]
  | .pop_af => [0xF1]
  | .ld_a_mc => [0xF2]
  | .di => [0xF3]
  | .undefined_f4 => [0xF4]
  | .push_af => [0xF5]
  | .or_n8 n8 => [0xF6, n8]
  | .rst_30 => [0xF7]
  | .ld_hl_sp_e8 e8 => [0xF8, e8]
  | .ld_sp_hl => [0xF9]
  | .ld_a_ma16 a16 => [0xFA, loByte a16, hiByte a16]
  | .ei => [0xFB]
  | .undefined_fc => [0xFC]
  | .undefined_fd => [0xFD]
  | .cp_n8 n8 => [0xFE, n8]
  | .rst_38 => [0xFF]
  | .rlc_b => [0xCB, 0x00]
  | .rlc_c => [0xCB, 0x01]
  | .rlc_d => [0xCB, 0x02]
  | .rlc_e => [0xCB, 0x03]
  | .rlc_h => [0xCB, 0x04]
  | .rlc_l => [0xCB, 0x05]
  | .rlc_mhl => [0xCB, 0x06]
  | .rlc_a => [0xCB, 0x07]
  | .rrc_b => [0xCB, 0x08]
  | .rrc_c => [0xCB, 0x09]
  | .rrc_d => [0xCB, 0x0A]
  | .rrc_e => [0xCB, 0x0B]
  | .rrc_h => [0xCB, 0x0C]
  | .rrc_l => [0xCB, 0x0D]
  | .rrc_mhl => [0xCB, 0x0E]
  | .rrc_a => [0xCB, 0x0F]
  | .rl_b => [0xCB, 0x10]
  | .rl_c => [0xCB, 0x11]
  | .rl_d => [0xCB, 0x12]
  | .rl_e => [0xCB, 0x13]
  | .rl_h => [0xCB, 0x14]
  | .rl_l => [0xCB, 0x15]
  | .rl_mhl => [0xCB, 0x16]
  | .rl_a => [0xCB, 0x17]
  | .rr_b => [0xCB, 0x18]
  | .rr_c => [0xCB, 0x19]
  | .rr_d => [0xCB, 0x1A]
  | .rr_e => [0xCB, 0x1B]
  | .rr_h => [0xCB, 0x1C]
  | .rr_l => [0xCB, 0x1D]
  | .rr_mhl => [0xCB, 0x1E]
  | .rr_a => [0xCB, 0x1F]
  | .sla_b => [0xCB, 0x20]
  | .sla_c => [0xCB, 0x21]
  | .sla_d => [0xCB, 0x22]
  | .sla_e => [0xCB, 0x23]
  | .sla_h => [0xCB, 0x24]
  | .sla_l => [0xCB, 0x25]
  | .sla_mhl => [0xCB, 0x26]
  | .sla_a => [0xCB, 0x27]
  | .sra_b => [0xCB, 0x28]
  | .sra_c => [0xCB, 0x29]
  | .sra_d => [0xCB, 0x2A]
  | .sra_e => [0xCB, 0x2B]
  | .sra_h => [0xCB, 0x2C]
  | .sra_l => [0xCB, 0x2D]
  | .sra_mhl => [0xCB, 0x2E]
  | .sra_a => [0xCB, 0x2F]
  | .swap_b => [0xCB, 0x30]
  | .swap_c => [0xCB, 0x31]
  | .swap_d => [0xCB, 0x32]
  | .swap_e => [0xCB, 0x33]
  | .swap_h => [0xCB, 0x34]
  | .swap_l => [0xCB, 0x35]
  | .swap_mhl => [0xCB, 0x36]
  | .swap_a => [0xCB, 0x37]
  | .srl_b => [0xCB, 0x38]
  | .srl_c => [0xCB, 0x39]
  | .srl_d => [0xCB, 0x3A]
  | .srl_e => [0xCB, 0x3B]
  | .srl_h => [0xCB, 0x3C]
  | .srl_l => [0xCB, 0x3D]
  | .srl_mhl => [0xCB, 0x3E]
  | .srl_a => [0xCB, 0x3F]
  | .bit_0_b => [0xCB, 0x40]
  | .bit_0_c => [0xCB, 0x41]
  | .bit_0_d => [0xCB, 0x42]
  | .bit_0_e => [0xCB, 0x43]
  | .bit_0_h => [0xCB, 0x44]
  | .bit_0_l => [0xCB, 0x45]
  | .bit_0_mhl => [0xCB, 0x46]
  | .bit_0_a => [0xCB, 0x47]
  | .bit_1_b => [0xCB, 0x48]
  | .bit_1_c => [0xCB, 0x49]
  | .bit_1_d => [0xCB, 0x4A]
  | .bit_1_e => [0xCB, 0x4B]
  | .bit_1_h => [0xCB, 0x4C]
  | .bit_1_l => [0xCB, 0x4D]
  | .bit_1_mhl => [0xCB, 0x4E]
  | .bit_1_a => [0xCB, 0x4F]
  | .bit_2_b => [0xCB, 0x50]
  | .bit_2_c => [0xCB, 0x51]
  | .bit_2_d => [0xCB, 0x52]
  | .bit_2_e => [0xCB, 0x53]
  | .bit_2_h => [0xCB, 0x54]
  | .bit_2_l => [0xCB, 0x55]
  | .bit_2_mhl => [0xCB, 0x56]
  | .bit_2_a => [0xCB, 0x57]
  | .bit_3_b => [0xCB, 0x58]
  | .bit_3_c => [0xCB, 0x59]
  | .bit_3_d => [0xCB, 0x5A]
  | .bit_3_e => [0xCB, 0x5B]
  | .bit_3_h => [0xCB, 0x5C]
  | .bit_3_l => [0xCB, 0x5D]
  | .bit_3_mhl => [0xCB, 0x5E]
  | .bit_3_a => [0xCB, 0x5F]
  | .bit_4_b => [0xCB, 0x60]
  | .bit_4_c => [0xCB, 0x61]
  | .bit_4_d => [0xCB, 0x62]
  | .bit_4_e => [0xCB, 0x63]
  | .bit_4_h => [0xCB, 0x64]
  | .bit_4_l => [0xCB, 0x65]
  | .bit_4_mhl => [0xCB, 0x66]
  | .bit_4_a => [0xCB, 0x67]
  | .bit_5_b => [0xCB, 0x68]
  | .bit_5_c => [0xCB, 0x69]
  | .bit_5_d => [0xCB, 0x6A]
  | .bit_5_e => [0xCB, 0x6B]
  | .bit_5_h => [0xCB, 0x6C]
  | .bit_5_l => [0xCB, 0x6D]
  | .bit_5_mhl => [0xCB, 0x6E]
  | .bit_5_a => [0xCB, 0x6F]
  | .bit_6_b => [0xCB, 0x70]
  | .bit_6_c => [0xCB, 0x71]
  | .bit_6_d => [0xCB, 0x72]
  | .bit_6_e => [0xCB, 0x73]
  | .bit_6_h => [0xCB, 0x74]
  | .bit_6_l => [0xCB, 0x75]
  | .bit_6_mhl => [0xCB, 0x76]
  | .bit_6_a => [0xCB, 0x77]
  | .bit_7_b => [0xCB, 0x78]
  | .bit_7_c => [0xCB, 0x79]
  | .bit_7_d => [0xCB, 0x7A]
  | .bit_7_e => [0xCB, 0x7B]
  | .bit_7_h => [0xCB, 0x7C]
  | .bit_7_l => [0xCB, 0x7D]
  | .bit_7_mhl => [0xCB, 0x7E]
  | .bit_7_a => [0xCB, 0x7F]
  | .res_0_b => [0xCB, 0x80]
  | .res_0_c => [0xCB, 0x81]
  | .res_0_d => [0xCB, 0x82]
  | .res_0_e => [0xCB, 0x83]
  | .res_0_h => [0xCB, 0x84]
  | .res_0_l => [0xCB, 0x85]
  | .res_0_mhl => [0xCB, 0x86]
  | .res_0_a => [0xCB, 0x87]
  | .res_1_b => [0xCB, 0x88]
  | .res_1_c => [0xCB, 0x89]
  | .res_1_d => [0xCB, 0x8A]
  | .res_1_e => [0xCB, 0x8B]
  | .res_1_h => [0xCB, 0x8C]
  | .res_1_l => [0xCB, 0x8D]
  | .res_1_mhl => [0xCB, 0x8E]
  | .res_1_a => [0xCB, 0x8F]
  | .res_2_b => [0xCB, 0x90]
  | .res_2_c => [0xCB, 0x91]
  | .res_2_d => [0xCB, 0x92]
  | .res_2_e => [0xCB, 0x93]
  | .res_2_h => [0xCB, 0x94]
  | .res_2_l => [0xCB, 0x95]
  | .res_2_mhl => [0xCB, 0x96]
  | .res_2_a => [0xCB, 0x97]
  | .res_3_b => [0xCB, 0x98]
  | .res_3_c => [0xCB, 0x99]
  | .res_3_d => [0xCB, 0x9A]
  | .res_3_e => [0xCB, 0x9B]
  | .res_3_h => [0xCB, 0x9C]
  | .res_3_l => [0xCB, 0x9D]
  | .res_3_mhl => [0xCB, 0x9E]
  | .res_3_a => [0xCB, 0x9F]
  | .res_4_b => [0xCB, 0xA0]
  | .res_4_c => [0xCB, 0xA1]
  | .res_4_d => [0xCB, 0xA2]
  | .res_4_e => [0xCB, 0xA3]
  | .res_4_h => [0xCB, 0xA4]
  | .res_4_l => [0xCB, 0xA5]
  | .res_4_mhl => [0xCB, 0xA6]
  | .res_4_a => [0xCB, 0xA7]
  | .res_5_b => [0xCB, 0xA8]
  | .res_5_c => [0xCB, 0xA9]
  | .res_5_d => [0xCB, 0xAA]
  | .res_5_e => [0xCB, 0xAB]
  | .res_5_h => [0xCB, 0xAC]
  | .res_5_l => [0xCB, 0xAD]
  | .res_5_mhl => [0xCB, 0xAE]
  | .res_5_a => [0xCB, 0xAF]
  | .res_6_b => [0xCB, 0xB0]
  | .res_6_c => [0xCB, 0xB1]
  | .res_6_d => [0xCB, 0xB2]
  | .res_6_e => [0xCB, 0xB3]
  | .res_6_h => [0xCB, 0xB4]
  | .res_6_l => [0xCB, 0xB5]
  | .res_6_mhl => [0xCB, 0xB6]
  | .res_6_a => [0xCB, 0xB7]
  | .res_7_b => [0xCB, 0xB8]
  | .res_7_c => [0xCB, 0xB9]
  | .res_7_d => [0xCB, 0xBA]
  | .res_7_e => [0xCB, 0xBB]
  | .res_7_h => [0xCB, 0xBC]
  | .res_7_l => [0xCB, 0xBD]
  | .res_7_mhl => [0xCB, 0xBE]
  | .res_7_a => [0xCB, 0xBF]
  | .set_0_b => [0xCB, 0xC0]
  | .set_0_c => [0xCB, 0xC1]
  | .set_0_d => [0xCB, 0xC2]
  | .set_0_e => [0xCB, 0xC3]
  | .set_0_h => [0xCB, 0xC4]
  | .set_0_l => [0xCB, 0xC5]
  | .set_0_mhl => [0xCB, 0xC6]
  | .set_0_a => [0xCB, 0xC7]
  | .set_1_b => [0xCB, 0xC8]
  | .set_1_c => [0xCB, 0xC9]
  | .set_1_d => [0xCB, 0xCA]
  | .set_1_e => [0xCB, 0xCB]
  | .set_1_h => [0xCB, 0xCC]
  | .set_1_l => [0xCB, 0xCD]
  | .set_1_mhl => [0xCB, 0xCE]
  | .set_1_a => [0xCB, 0xCF]
  | .set_2_b => [0xCB, 0xD0]
  | .set_2_c => [0xCB, 0xD1]
  | .set_2_d => [0xCB, 0xD2]
  | .set_2_e => [0xCB, 0xD3]
  | .set_2_h => [0xCB, 0xD4]
  | .set_2_l => [0xCB, 0xD5]
  | .set_2_mhl => [0xCB, 0xD6]
  | .set_2_a => [0xCB, 0xD7]
  | .set_3_b => [0xCB, 0xD8]
  | .set_3_c => [0xCB, 0xD9]
  | .set_3_d => [0xCB, 0xDA]
  | .set_3_e => [0xCB, 0xDB]
  | .set_3_h => [0xCB, 0xDC]
  | .set_3_l => [0xCB, 0xDD]
  | .set_3_mhl => [0xCB, 0xDE]
  | .set_3_a => [0xCB, 0xDF]
  | .set_4_b => [0xCB, 0xE0]
  | .set_4_c => [0xCB, 0xE1]
  | .set_4_d => [0xCB, 0xE2]
  | .set_4_e => [0xCB, 0xE3]
  | .set_4_h => [0xCB, 0xE4]
  | .set_4_l => [0xCB, 0xE5]
  | .set_4_mhl => [0xCB, 0xE6]
  | .set_4_a => [0xCB, 0xE7]
  | .set_5_b => [0xCB, 0xE8]
  | .set_5_c => [0xCB, 0xE9]
  | .set_5_d => [0xCB, 0xEA]
  | .set_5_e => [0xCB, 0xEB]
  | .set_5_h => [0xCB, 0xEC]
  | .set_5_l => [0xCB, 0xED]
  | .set_5_mhl => [0xCB, 0xEE]
  | .set_5_a => [0xCB, 0xEF]
  | .set_6_b => [0xCB, 0xF0]
  | .set_6_c => [0xCB, 0xF1]
  | .set_6_d => [0xCB, 0xF2]
  | .set_6_e => [0xCB, 0xF3]
  | .set_6_h => [0xCB, 0xF4]
  | .set_6_l => [0xCB, 0xF5]
  | .set_6_mhl => [0xCB, 0xF6]
  | .set_6_a => [0xCB, 0xF7]
  | .set_7_b => [0xCB, 0xF8]
  | .set_7_c => [0xCB, 0xF9]
  | .set_7_d => [0xCB, 0xFA]
  | .set_7_e => [0xCB, 0xFB]
  | .set_7_h => [0xCB, 0xFC]
  | .set_7_l => [0xCB, 0xFD]
  | .set_7_mhl => [0xCB, 0xFE]
  | .set_7_a => [0xCB, 0xFF]

/-! ## The host's word of a table row -/

/-- The three bytes of an instruction given as one number. spec/opcode_table.json writes a CB row's `match` as "the opcode
bytes in fetch order as one hexadecimal number" (R91), so a 16-bit number whose high byte is 0xCB has that byte first; in
every other case bit 0 is the least significant bit of the first byte (log entry 8). -/
def tableBytes (nbits w : Nat) : List Byte :=
  let v := w % 2 ^ nbits
  if nbits = 16 ∧ v / 256 = 0xCB then [0xCB, BitVec.ofNat 8 v, 0x00]
  else [BitVec.ofNat 8 v, BitVec.ofNat 8 (v / 256), BitVec.ofNat 8 (v / 65536)]

/-- The instruction the decoder reads from those bytes. -/
def decodeTableWord (nbits w : Nat) : Option Instr :=
  match decode Config.stopLengthDefault (tableBytes nbits w) with
  | .ok (i, _) => some i
  | .error _ => none

end Sys2Proof
end

