-- ==== Sys2Proof/Machine/System.lean ====
section
/-! DEFINITION. System, control and undefined opcodes (49_system.md): the shared operations, then one meaning per instruction with its row's cycle total. -/

namespace Sys2Proof.Machine

/-- HALT: the core halts, or with IME = 0 and a request pending sets halt_bug instead. IRQ is the value sampled at the
Step's start (R281). -/
def haltOrBug (s : State) : Host.Outcome State Fault Refusal :=
  if s.ime = false ∧ s.irq ≠ 0 then State.done { s with haltBug := true } 4
  else State.done { s with halted := true } 4

/-- The count of a CB instruction: 8 on a register, `onMem` on (HL) (R244). -/
def cbTotal (r : R8) (onMem : Nat) : Nat := if r = .mhl then onMem else 8

/-- "execute CB instruction op2" by the fields of its opcode byte (R285, R86). -/
def execCbTable (op2 : Byte) (s : State) : Host.Outcome State Fault Refusal :=
  let r := R8.ofField (fieldZ op2)
  let b := Fin.ofNat 8 (fieldY op2)
  match fieldX op2 with
  | 0 => rotR8 (RotOp.ofField (fieldY op2)) r (cbTotal r 16) s
  | 1 => testBitR8 b r (cbTotal r 12) s
  | 2 => resBitR8 b r (cbTotal r 16) s
  | _ => setBitR8 b r (cbTotal r 16) s

/-- `NOP`, 00 (R280). -/
def exec_nop (s : State) : Host.Outcome State Fault Refusal :=
  s.done 4

/-- `STOP`, 10: with STOP_LENGTH = 2 the byte after the opcode is skipped without a bus read (R282). -/
def exec_stop (s : State) : Host.Outcome State Fault Refusal :=
  State.done { s with pc := s.pc + BitVec.ofNat 16 (stopSkip s.stopLength), stopped := true } 4

/-- `HALT`, 76 (R281). -/
def exec_halt (s : State) : Host.Outcome State Fault Refusal :=
  haltOrBug s

/-- `PREFIX CB`, CB: reads the CB opcode byte at PC, then runs that CB instruction (R285). -/
def exec_prefix_cb (s : State) : Host.Outcome State Fault Refusal :=
  let (op2, s1) := s.fetchImm8
  execCbTable op2 s1

/-- `UNDEFINED`, D3 (R286); PC is the address of the opcode: the state is that of before the Step (R310, log entry 10). -/
def exec_undefined_d3 (s : State) : Host.Outcome State Fault Refusal :=
  .next (s.raiseUndefined 0xD3)

/-- `UNDEFINED`, DB (R286); PC is the address of the opcode: the state is that of before the Step (R310, log entry 10). -/
def exec_undefined_db (s : State) : Host.Outcome State Fault Refusal :=
  .next (s.raiseUndefined 0xDB)

/-- `UNDEFINED`, DD (R286); PC is the address of the opcode: the state is that of before the Step (R310, log entry 10). -/
def exec_undefined_dd (s : State) : Host.Outcome State Fault Refusal :=
  .next (s.raiseUndefined 0xDD)

/-- `UNDEFINED`, E3 (R286); PC is the address of the opcode: the state is that of before the Step (R310, log entry 10). -/
def exec_undefined_e3 (s : State) : Host.Outcome State Fault Refusal :=
  .next (s.raiseUndefined 0xE3)

/-- `UNDEFINED`, E4 (R286); PC is the address of the opcode: the state is that of before the Step (R310, log entry 10). -/
def exec_undefined_e4 (s : State) : Host.Outcome State Fault Refusal :=
  .next (s.raiseUndefined 0xE4)

/-- `UNDEFINED`, EB (R286); PC is the address of the opcode: the state is that of before the Step (R310, log entry 10). -/
def exec_undefined_eb (s : State) : Host.Outcome State Fault Refusal :=
  .next (s.raiseUndefined 0xEB)

/-- `UNDEFINED`, EC (R286); PC is the address of the opcode: the state is that of before the Step (R310, log entry 10). -/
def exec_undefined_ec (s : State) : Host.Outcome State Fault Refusal :=
  .next (s.raiseUndefined 0xEC)

/-- `UNDEFINED`, ED (R286); PC is the address of the opcode: the state is that of before the Step (R310, log entry 10). -/
def exec_undefined_ed (s : State) : Host.Outcome State Fault Refusal :=
  .next (s.raiseUndefined 0xED)

/-- `DI`, F3 (R283). -/
def exec_di (s : State) : Host.Outcome State Fault Refusal :=
  State.done { s with ime := false, imePending := false } 4

/-- `UNDEFINED`, F4 (R286); PC is the address of the opcode: the state is that of before the Step (R310, log entry 10). -/
def exec_undefined_f4 (s : State) : Host.Outcome State Fault Refusal :=
  .next (s.raiseUndefined 0xF4)

/-- `EI`, FB (R284). -/
def exec_ei (s : State) : Host.Outcome State Fault Refusal :=
  State.done { s with imePending := true } 4

/-- `UNDEFINED`, FC (R286); PC is the address of the opcode: the state is that of before the Step (R310, log entry 10). -/
def exec_undefined_fc (s : State) : Host.Outcome State Fault Refusal :=
  .next (s.raiseUndefined 0xFC)

/-- `UNDEFINED`, FD (R286); PC is the address of the opcode: the state is that of before the Step (R310, log entry 10). -/
def exec_undefined_fd (s : State) : Host.Outcome State Fault Refusal :=
  .next (s.raiseUndefined 0xFD)

end Sys2Proof.Machine
end

