-- ==== Sys2Proof/Machine/Fetch.lean ====
section
/-! DEFINITION. The parts of a Step around the instruction it runs (60_exceptions.md R300): sampling the inputs, the idle and
wake Steps, fetching the bytes of one instruction, the EI commit; and what a Step would fetch, seen from outside. -/

namespace Sys2Proof.Machine

/-- The inputs this Step samples: the first of the list, or all 0 (R301). -/
def State.input (s : State) : StepInput := s.inputs.headD {}

/-- The Step's start (R300 step 1): the outputs are cleared, the inputs are sampled once and taken off the list, and the
platform's changes and the bus's own answers are in force (R301, 20_memory.md R52). -/
def State.start (s : State) : State :=
  { s with
    inputs := s.inputs.tail, irq := s.input.irq, wake := s.input.wake, mem := s.mem.writeAll s.input.platform,
    answers := s.input.answers, cycles := 0, ack := none, bus := [] }

/-- A Step of a stopped core (R300 step 3, R309). -/
def State.stoppedStep (s : State) : State :=
  { s with stopped := if s.wake then false else s.stopped, cycles := 4 }

/-- A Step of a halted core (R300 step 4, R309). -/
def State.haltedStep (s : State) : State :=
  { s with halted := if s.irq ≠ 0 then false else s.halted, cycles := 4 }

/-- Reads the `n` bytes that follow the opcode, n = 0, 1 or 2; a byte not read is 0 and is not looked at (R9, R300). -/
def State.fetchOperands (s : State) : Nat → (Byte × Byte) × State
  | 0 => ((0, 0), s)
  | 1 =>
    let (b1, s1) := s.fetchImm8
    ((b1, 0), s1)
  | _ =>
    let (b1, s1) := s.fetchImm8
    let (b2, s2) := s1.fetchImm8
    ((b1, b2), s2)

/-- Fetches and decodes one instruction (R300 steps 6 and 8): every byte of it is read before its data accesses
(20_memory.md R63). -/
def State.fetch (s : State) : Instr × State :=
  let (op, s1) := s.fetchOpcode
  let ((b1, b2), s2) := s1.fetchOperands (operandBytes op)
  (decodeInstr op b1 b2, s2)

/-- The EI commit (R300 step 10, R321): `pend` is ime_pending at the Step's start. -/
def State.commitEi (s : State) (pend : Bool) : State :=
  if pend && s.imePending then { s with ime := true, imePending := false } else s

/-! ## The instruction a Step would run, seen from outside -/

/-- The address of the first byte after the opcode, as the core fetches it: PC + 1, or PC itself under the halt bug
(10_state.md R34). -/
def State.operandPc (s : State) : Word := if s.haltBug then s.pc else s.pc + 1

/-- The bytes the core would read from the instruction stream, opcode first. -/
def State.codeBytes (s : State) : List Byte :=
  [s.answer 0 s.pc, s.answer 1 s.operandPc, s.answer 2 (s.operandPc + 1)]

/-- The state in which a fetched instruction runs, for an instruction that reads `n` bytes after its opcode. -/
def State.fetched (s : State) (n : Nat) : State :=
  { s with
    pc := s.operandPc + BitVec.ofNat 16 n, haltBug := false, answers := s.answers.drop (n + 1),
    bus := s.bus ++ (List.take (n + 1)
      [.read s.pc (s.answer 0 s.pc), .read s.operandPc (s.answer 1 s.operandPc),
       .read (s.operandPc + 1) (s.answer 2 (s.operandPc + 1))]) }

/-! ## Placing one instruction -/

/-- The next input with nothing that keeps the Step from fetching at PC: no platform change, no answer of the
bus but memory's, and no request where IME would have it entered. -/
def StepInput.quiet (i : StepInput) (ime : Bool) : StepInput :=
  { irq := if ime then 0 else i.irq, wake := i.wake, platform := [], answers := [] }

/-- Three bytes stored at PC and the two addresses after it. -/
def State.placeCode (s : State) (code : List Byte) : Memory :=
  ((s.mem.write s.pc.toNat (code.getD 0 0)).write (s.pc + 1).toNat (code.getD 1 0)).write (s.pc + 2).toNat (code.getD 2 0)

end Sys2Proof.Machine
end

