-- ==== Sys2Proof/Machine/Run.lean ====
section
/-! DEFINITION. Running one instruction, and the order of a Step's events (60_exceptions.md R300 steps 3 to 11, R314). -/

namespace Sys2Proof.Machine

/-- An outcome with its next state changed. -/
def mapNext (g : State → State) : Host.Outcome State Fault Refusal → Host.Outcome State Fault Refusal
  | .next t => .next (g t)
  | .fault r => .fault r
  | .refused r => .refused r

/-- Steps 6 to 11 of R300. At an undefined opcode the state of before the fetch is restored, all but the bus read, which
"has already reached the bus" (R310), and the Step ends before the EI commit (step 7). -/
def State.runInstruction (s : State) : Host.Outcome State Fault Refusal :=
  let (i, s1) := s.fetch
  if i.isUndefined then exec i { s with answers := s1.answers, bus := s1.bus }
  else mapNext (·.commitEi s.imePending) (exec i s1)

/-- What a Step does after its start, in R300's order of events (R314). -/
def State.afterStart (s : State) : Host.Outcome State Fault Refusal :=
  if s.stopped then .next s.stoppedStep
  else if s.halted then .next s.haltedStep
  else
    match s.ime, lowestRequest s.irq with
    | true, some n => .next (s.interruptEntry n)
    | _, _ => s.runInstruction

end Sys2Proof.Machine
end

