-- ==== Sys2Proof/Machine/Step.lean ====
section
/-! DEFINITION. The Step (60_exceptions.md R300), and the host's `withFetchWord`. -/

namespace Sys2Proof.Machine

/-- One Step (R300). A locked core answers its saved error (step 2, R312). -/
def step (s : State) : Host.Outcome State Fault Refusal :=
  match s.locked with
  | some e => .fault (.locked e)
  | none => s.start.afterStart

/-! ## The host's placing of one instruction -/

/-- The state with the instruction of a table word stored at PC and nothing that keeps the very next Step from running
it: the core is not locked, stopped, halted or in the halt bug, and no interrupt is entered first (log entry 11). -/
def State.withFetchWord (s : State) (nbits w : Nat) : State :=
  { s with
    mem := s.placeCode (tableBytes nbits w),
    locked := none, stopped := false, halted := false, haltBug := false,
    inputs := match s.inputs with
      | [] => []
      | i :: rest => i.quiet s.ime :: rest }

end Sys2Proof.Machine
end

