-- ==== Sys2Proof/Safety.lean ====
section
/-! DEFINITION. The terms the claims use: what a transition leaves unchanged, the invariant of the machine, and the spec's
own tables written down once more, apart from the model's code (30_encoding.md R83, R85; 47_bit.md; 10_state.md R24, R29). -/

namespace Sys2Proof

/-! ## The selectors' numbers (R83) -/

def R8.code : R8 → Byte
  | .b => 0
  | .c => 1
  | .d => 2
  | .e => 3
  | .h => 4
  | .l => 5
  | .mhl => 6
  | .a => 7

def R16.code : R16 → Byte
  | .bc => 0
  | .de => 1
  | .hl => 2
  | .sp => 3

def R16Stk.code : R16Stk → Byte
  | .bc => 0
  | .de => 1
  | .hl => 2
  | .af => 3

def R16Mem.code : R16Mem → Byte
  | .bc => 0
  | .de => 1
  | .hli => 2
  | .hld => 3

def Cc.code : Cc → Byte
  | .nz => 0
  | .z => 1
  | .nc => 2
  | .c => 3

def AluOp.code : AluOp → Byte
  | .add => 0
  | .adc => 1
  | .sub => 2
  | .sbc => 3
  | .and => 4
  | .xor => 5
  | .or => 6
  | .cp => 7

def RotOp.code : RotOp → Byte
  | .rlc => 0
  | .rrc => 1
  | .rl => 2
  | .rr => 3
  | .sla => 4
  | .sra => 5
  | .swap => 6
  | .srl => 7

/-- The instruction's bytes are these, whatever STOP_LENGTH is. -/
def Instr.EncodedAs (i : Instr) (bytes : List Byte) : Prop := ∀ sl, encode sl i = bytes

/-- R85's second grid, the length in bytes of each primary opcode row by row; 1 stands where the grid has no length (an
undefined slot, whose opcode byte alone is read). STOP shows the default 2. -/
def lengthGrid : List (List Nat) :=
  [ [1, 3, 1, 1, 1, 1, 2, 1, 3, 1, 1, 1, 1, 1, 2, 1],
    [2, 3, 1, 1, 1, 1, 2, 1, 2, 1, 1, 1, 1, 1, 2, 1],
    [2, 3, 1, 1, 1, 1, 2, 1, 2, 1, 1, 1, 1, 1, 2, 1],
    [2, 3, 1, 1, 1, 1, 2, 1, 2, 1, 1, 1, 1, 1, 2, 1] ] ++
  List.replicate 8 (List.replicate 16 1) ++
  [ [1, 1, 3, 3, 3, 1, 2, 1, 1, 1, 3, 2, 3, 3, 2, 1],
    [1, 1, 3, 1, 3, 1, 2, 1, 1, 1, 3, 1, 3, 1, 2, 1],
    [2, 1, 1, 1, 1, 1, 2, 1, 2, 1, 3, 1, 1, 1, 2, 1],
    [2, 1, 1, 1, 1, 1, 2, 1, 2, 1, 3, 1, 1, 1, 2, 1] ]

/-- The length told from the first byte: the grid's, but STOP's is STOP_LENGTH (R82, R282). -/
def lengthOf (sl : StopLength) (op : Byte) : Nat :=
  if op = 0x10 then (match sl with
    | .one => 1
    | .two => 2)
  else (lengthGrid.getD (op.toNat / 16) []).getD (op.toNat % 16) 0

/-! ## Which instructions write SP (10_state.md R24) -/

/-- The instructions of R24's list. -/
def Instr.writesSp : Instr → Bool
  | .ld_sp_n16 _ | .ld_sp_hl | .inc_sp | .dec_sp | .add_sp_e8 _ => true
  | .push_bc | .push_de | .push_hl | .push_af | .pop_bc | .pop_de | .pop_hl | .pop_af => true
  | .call_a16 _ | .call_nz_a16 _ | .call_z_a16 _ | .call_nc_a16 _ | .call_c_a16 _ => true
  | .ret | .ret_nz | .ret_z | .ret_nc | .ret_c | .reti => true
  | .rst_00 | .rst_08 | .rst_10 | .rst_18 | .rst_20 | .rst_28 | .rst_30 | .rst_38 => true
  | _ => false

namespace Machine

/-! ## What a transition leaves unchanged -/

/-- Every 8-bit register but those listed is unchanged; F is left to `FlagsKept`. -/
def RegsKept (written : List Reg8) (s t : State) : Prop := ∀ r, r ≠ .f → r ∉ written → t.get8 r = s.get8 r

/-- Every flag but those listed is unchanged; F's low nibble reads 0 in every state (R23). -/
def FlagsKept (written : List Flag) (s t : State) : Prop := ∀ fl, fl ∉ written → t.getFlag fl = s.getFlag fl

/-- IME, ime_pending, halted, stopped, halt_bug and locked are unchanged, and so are the construction parameter, the
inputs, the sampled IRQ and WAKE, and `ack`. -/
def ControlKept (s t : State) : Prop :=
  t.ime = s.ime ∧ t.imePending = s.imePending ∧ t.halted = s.halted ∧ t.stopped = s.stopped ∧ t.haltBug = s.haltBug ∧
  t.locked = s.locked ∧ t.stopLength = s.stopLength ∧ t.inputs = s.inputs ∧ t.irq = s.irq ∧ t.wake = s.wake ∧ t.ack = s.ack

/-- Memory holds the same byte as before at every address outside those listed. -/
def MemKeptOutside (stored : List Word) (s t : State) : Prop := ∀ a, a ∉ stored → t.byteAt a = s.byteAt a

/-- Memory holds the same byte as before at every address. -/
def MemKept (s t : State) : Prop := ∀ a, t.byteAt a = s.byteAt a

/-- The call is a read. -/
def BusEvent.isRead : BusEvent → Bool
  | .read _ _ => true
  | .write _ _ => false

/-- From `s` to `t` the core makes these bus calls, in this order, and no other, and each read takes one of the bus's
answers (20_memory.md R52, R54, R56, R58). -/
def Calls (calls : List BusEvent) (s t : State) : Prop :=
  t.bus = s.bus ++ calls ∧ t.answers = s.answers.drop (calls.countP (·.isRead))

/-- Nothing changes but the 8-bit registers and flags listed (and the Step's count and bus calls). -/
def OnlyRegsChange (regs : List Reg8) (flags : List Flag) (s t : State) : Prop :=
  RegsKept regs s t ∧ FlagsKept flags s t ∧ t.sp = s.sp ∧ t.pc = s.pc ∧ ControlKept s t ∧ MemKept s t

/-- Nothing changes but PC (and the Step's count and bus calls). -/
def OnlyPcChanges (s t : State) : Prop :=
  RegsKept [] s t ∧ FlagsKept [] s t ∧ t.sp = s.sp ∧ ControlKept s t ∧ MemKept s t

/-- A Step that starts in this state fetches an instruction: the core is not locked, stopped or halted and no interrupt is
entered (60_exceptions.md R300, R314). -/
def State.RunsInstruction (s : State) : Prop :=
  s.locked = none ∧ s.stopped = false ∧ s.halted = false ∧ ¬(s.ime = true ∧ s.input.irq ≠ 0)

/-- `cond(cc)` from the bits of F: Z is bit 7 and C is bit 4 (10_state.md R25, R31). -/
def State.holds (s : State) : Cc → Bool
  | .nz => s.f.getLsbD 7 == false
  | .z => s.f.getLsbD 7 == true
  | .nc => s.f.getLsbD 4 == false
  | .c => s.f.getLsbD 4 == true

/-! ## An r8 operand, by the form it names (30_encoding.md R83) -/

/-- The operand's value as an instruction reads it: a register's, or what the bus answers for HL. -/
def State.r8Value (s : State) (r : R8) : Byte :=
  match regOf r with
  | some x => s.get8 x
  | none => s.answer 0 (s.get16 .hl)

/-- What the operand holds after a write of it: a register's value, or the byte memory holds at HL. -/
def State.r8Holds (s : State) (r : R8) : Byte :=
  match regOf r with
  | some x => s.get8 x
  | none => s.byteAt (s.get16 .hl)

/-- The register a write of the operand changes. -/
def r8Regs (r : R8) : List Reg8 :=
  match regOf r with
  | some x => [x]
  | none => []

/-- The address a write of the operand stores to. -/
def State.r8Stored (s : State) (r : R8) : List Word :=
  match regOf r with
  | some _ => []
  | none => [s.get16 .hl]

/-- The bus calls of reading the operand. -/
def State.r8Reads (s : State) (r : R8) : List BusEvent :=
  match regOf r with
  | some _ => []
  | none => [.read (s.get16 .hl) (s.answer 0 (s.get16 .hl))]

/-- The bus calls of writing v to the operand. -/
def State.r8Writes (s : State) (r : R8) (v : Byte) : List BusEvent :=
  match regOf r with
  | some _ => []
  | none => [.write (s.get16 .hl) v]

/-- Nothing changes but the operand and the flags listed (and the Step's count and bus calls). -/
def OnlyR8Changes (r : R8) (flags : List Flag) (s t : State) : Prop :=
  RegsKept (r8Regs r) s t ∧ FlagsKept flags s t ∧ t.sp = s.sp ∧ t.pc = s.pc ∧ ControlKept s t ∧
  MemKeptOutside (s.r8Stored r) s t

/-- A cycle total that is one thing on a register and another on (HL). -/
def r8Total (r : R8) (onReg onMem : Nat) : Nat :=
  match regOf r with
  | some _ => onReg
  | none => onMem

/-- The ALU instruction with an operand of one of its three forms (42_arithmetic.md R140). -/
def aluInstr (op : AluOp) : AluSrc → Instr
  | .r8 r => .ofAlu op r
  | .n8 v => .ofAluImm op v

/-- The bytes of that instruction: `10 aaa sss`, or `11 aaa 110` n8 (R140). -/
def aluBytes (op : AluOp) : AluSrc → List Byte
  | .r8 r => [0x80 + 8 * op.code + r.code]
  | .n8 v => [0xC6 + 8 * op.code, v]

/-- The operand X of R140. -/
def State.srcValue (s : State) : AluSrc → Byte
  | .r8 r => s.r8Value r
  | .n8 v => v

/-- The bus calls of reading X; the immediate was read when the instruction was fetched. -/
def State.srcReads (s : State) : AluSrc → List BusEvent
  | .r8 r => s.r8Reads r
  | .n8 _ => []

/-- R140's cycles: 4 on a register, 8 on (HL) or an immediate. -/
def srcTotal : AluSrc → Nat
  | .r8 r => r8Total r 4 8
  | .n8 _ => 8

/-- The 8-bit registers an r16 operand is made of; none for SP. -/
def r16Regs (p : R16) : List Reg8 :=
  match pairOf p with
  | some q => [q.high, q.low]
  | none => []

/-! ## Rotates and shifts, bit by bit (47_bit.md R245 to R252) -/

/-- Bit k of the result on v with the carry c. -/
def rotBit (op : RotOp) (v : Byte) (c : Bool) (k : Nat) : Bool :=
  match op with
  | .rlc => v.getLsbD ((k + 7) % 8)
  | .rrc => v.getLsbD ((k + 1) % 8)
  | .rl => if k = 0 then c else v.getLsbD (k - 1)
  | .rr => if k = 7 then c else v.getLsbD (k + 1)
  | .sla => if k = 0 then false else v.getLsbD (k - 1)
  | .sra => if k = 7 then v.getLsbD 7 else v.getLsbD (k + 1)
  | .swap => v.getLsbD ((k + 4) % 8)
  | .srl => if k = 7 then false else v.getLsbD (k + 1)

/-- The carry out: the bit that leaves, and 0 for SWAP. -/
def rotCarry (op : RotOp) (v : Byte) : Bool :=
  match op with
  | .rlc | .rl | .sla => v.getLsbD 7
  | .rrc | .rr | .sra | .srl => v.getLsbD 0
  | .swap => false

/-! ## Packed BCD (42_arithmetic.md R147) -/

/-- The packed BCD byte of a number below 100. -/
def bcd (n : Nat) : Byte := BitVec.ofNat 8 (16 * (n / 10) + n % 10)

/-! ## The invariant -/

/-- What holds of every state the machine reaches. -/
structure State.Inv (s : State) : Prop where
  /-- The memory is in its canonical form. -/
  memory : s.mem.wf = true
  /-- "F's low nibble (bits 3-0) never holds meaningful state; it must always read as zero" (10_state.md R23). -/
  flagsLow : s.f &&& 0x0F = 0
  /-- The core is in at most one of halted, stopped and the halt bug (R32, R33, R34). -/
  oneIdle : (s.halted = true → s.stopped = false ∧ s.haltBug = false) ∧ (s.stopped = true → s.haltBug = false)
  /-- A saved error is UndefinedOpcode, on one of the eleven opcodes, at PC (R35; 60_exceptions.md R310, R311). -/
  savedError : ∀ e, s.locked = some e → ∃ op ∈ undefinedOpcodes, e = .undefinedOpcode op s.pc
  /-- "the returned cycle count is a positive multiple of 4" (R320), or 0 where the Step returned none. -/
  count : s.cycles % 4 = 0

end Machine

end Sys2Proof
end

