-- ==== Sys2Proof/Certificates/Slice0/Obligations.lean ====
section
/-! DEFINITION. The statements for the provers. `Calls` gives the bus calls of the instruction after its fetch, in order
(20_memory.md R54, R56, R58); a read's value is what the bus answers to it, any byte (R52, D11), `s.answer k` for a read
that k others come before. Where a rule of the spec is marked as general knowledge, it is
followed as written (log entry 12); that holds of each rule's Cycles line too, and the table those counts are collected in
(70_reset_and_hazards.md R348) is decision D19's. Where a statement rests on a decision of 92_eei_decisions.md or on the
model's own choice, its docstring says so. -/

open Sys2Proof Sys2Proof.Machine

/-! ## Encoding -/

/-- Decoding the bytes the encoder gives for an instruction, with any bytes after them, gives the instruction back and
leaves those bytes. This covers all 500 instructions and the eleven undefined markers with every operand at every value;
the prefix marker, which is no instruction (R88), is given back where no byte follows it (log entry 9). -/
def Obligations.DecodeOfEncodeIsTheInstruction : Prop :=
  ∀ (i : Instr) (sl : StopLength) (rest : List Byte), (i.isPrefix = true → rest = []) →
    decode sl (encode sl i ++ rest) = .ok (i, rest)

/-- Where the decoder reads an instruction, the encoder gives the very bytes it was read from: no two byte sequences decode
to one instruction. STOP is apart, since the byte it skips is not part of the term (R282). -/
def Obligations.EncodeOfDecodeIsTheBytes : Prop :=
  ∀ (sl : StopLength) (bytes rest : List Byte) (i : Instr), decode sl bytes = .ok (i, rest) → i ≠ .stop →
    encode sl i ++ rest = bytes

/-- R92: "Every one of the 256 primary byte values and every CB byte value decodes to exactly one descriptor or marker."
With two bytes after it every opcode byte decodes; it decodes to an undefined marker exactly for the eleven opcodes of R87,
and then to its own; it never decodes to the prefix marker, since the byte after 0xCB selects a CB instruction (R88). -/
def Obligations.EveryOpcodeByteDecodes : Prop :=
  ∀ (sl : StopLength) (op b1 b2 : Byte) (rest : List Byte), ∃ i rest',
    decode sl (op :: b1 :: b2 :: rest) = .ok (i, rest') ∧ i.isPrefix = false ∧
    i.undefinedByte = (if op ∈ undefinedOpcodes then some op else none)

/-- R82, R85's second grid: the length of an instruction is told from its first byte alone, and STOP's is STOP_LENGTH. -/
def Obligations.LengthIsToldByTheFirstByte : Prop :=
  ∀ (sl : StopLength) (op b1 b2 : Byte) (rest : List Byte), ∃ i,
    decode sl (op :: b1 :: b2 :: rest) = .ok (i, (op :: b1 :: b2 :: rest).drop (lengthOf sl op))

/-- Bytes written out from the maps of R85 and R86 decode to the instruction they stand for. -/
def Obligations.WrittenOutBytesDecode : Prop :=
  decode .two [0x01, 0x34, 0x12] = .ok (.ld_bc_n16 0x1234, []) ∧
  decode .two [0b01000001] = .ok (.ld_b_c, []) ∧
  decode .two [0b10000110] = .ok (.add_a_mhl, []) ∧
  decode .two [0b00110101] = .ok (.dec_mhl, []) ∧
  decode .two [0b00100000, 0xFC] = .ok (.jr_nz_e8 0xFC, []) ∧
  decode .two [0b11001011, 0b00110111] = .ok (.swap_a, []) ∧
  decode .two [0b11001011, 0b11001011] = .ok (.set_1_e, []) ∧
  decode .two [0b11110101] = .ok (.push_af, []) ∧
  decode .two [0b01110110] = .ok (.halt, [])

/-! ## The Step -/

/-- R300 steps 6, 8, 9, 10: where a Step fetches an instruction, it runs the decoded instruction on the state in which PC
has moved past the bytes read, the reads are made and the halt bug is spent, and then commits a pending EI. The bytes are
the bus's answers to those reads: under the halt bug the opcode and the byte after it are two answers for one address. -/
def Obligations.StepRunsTheDecodedInstruction : Prop :=
  ∀ (s t : State) (i : Instr) (rest : List Byte), s.RunsInstruction →
    decode s.stopLength s.start.codeBytes = .ok (i, rest) → i.wellFormed = true →
    exec i (s.start.fetched (operandBytes (s.start.answer 0 s.pc))) = .next t →
    step s = .next
      (if s.imePending = true ∧ t.imePending = true then { t with ime := true, imePending := false } else t)

/-- R300 step 7, R310 (decision D7): a Step that fetches an undefined opcode leaves the state of before it, halt_bug and PC
among it, sets locked with the opcode and its address as the saved error, and makes the one bus read. -/
def Obligations.UndefinedOpcodeLocksTheCore : Prop :=
  ∀ (s : State) (op : Byte), s.RunsInstruction → s.start.answer 0 s.pc = op → op ∈ undefinedOpcodes →
    ∃ t, step s = .next t ∧ t.result = .error (.undefinedOpcode op s.pc) ∧
      t.locked = some (.undefinedOpcode op s.pc) ∧ (∀ r, t.get8 r = s.get8 r) ∧ t.sp = s.sp ∧ t.pc = s.pc ∧
      t.haltBug = s.haltBug ∧ t.ime = s.ime ∧ t.imePending = s.imePending ∧ t.halted = s.halted ∧ t.stopped = s.stopped ∧
      MemKept s.start t ∧ t.bus = [.read s.pc op]

/-- R312 (decision D7; log entry 7): a locked core answers its saved error, and every other core answers a next state:
"Neither state blocks a Step" (R320), and no instruction is refused. -/
def Obligations.StepStopsOnlyWhenLocked : Prop :=
  ∀ s : State, (s.locked = none → ∃ t, step s = .next t) ∧
    ∀ e, s.locked = some e → step s = .fault (.locked e)

/-- R303 to R305 (decisions D1, D2, D5, D9): with IME = 1 and a request, the Step enters the lowest-numbered interrupt: the
return address is pushed, the HALT's own where halt_bug = 1, IME, ime_pending and halt_bug are cleared, PC is the vector
0x0040 + 8n, `ack` is n and the count is 20; no other register and no flag changes, and nothing else in memory. -/
def Obligations.InterruptEntryPushesAndVectors : Prop :=
  ∀ (s : State) (n : Interrupt), s.locked = none → s.stopped = false → s.halted = false → s.ime = true →
    s.input.irq.getLsbD n.number = true → (∀ k < n.number, s.input.irq.getLsbD k = false) →
    ∃ t, step s = .next t ∧
      t.pc.toNat = 0x0040 + 8 * n.number ∧ t.sp = s.sp - 2 ∧
      (let ret := if s.haltBug then s.pc - 1 else s.pc
       t.byteAt (s.sp - 1) = hiByte ret ∧ t.byteAt (s.sp - 2) = loByte ret ∧
       t.bus = [.write (s.sp - 1) (hiByte ret), .write (s.sp - 2) (loByte ret)]) ∧
      t.ime = false ∧ t.imePending = false ∧ t.haltBug = false ∧ t.ack = some n ∧ t.result = .ok 20 ∧
      t.halted = false ∧ t.stopped = false ∧
      RegsKept [] s t ∧ FlagsKept [] s t ∧ MemKeptOutside [s.sp - 1, s.sp - 2] s.start t

/-- R309 (decisions D4, D6): a Step of a stopped or halted core makes no bus call and returns 4; WAKE ends stopped, any IRQ
bit ends halted whatever IME is; nothing else changes. Stopped is looked at first (R314). -/
def Obligations.IdleStepsWakeOrWait : Prop :=
  ∀ s : State, s.locked = none →
    (s.stopped = true → ∃ t, step s = .next t ∧ t.stopped = !s.input.wake ∧ t.halted = s.halted ∧
      t.result = .ok 4 ∧ t.bus = [] ∧ t.ack = none ∧ t.ime = s.ime ∧ t.imePending = s.imePending ∧ t.haltBug = s.haltBug ∧
      OnlyRegsChange [] [] { s.start with stopped := t.stopped } t) ∧
    (s.stopped = false → s.halted = true → ∃ t, step s = .next t ∧ t.halted = decide (s.input.irq = 0) ∧
      t.result = .ok 4 ∧ t.bus = [] ∧ t.ack = none ∧ t.ime = s.ime ∧ t.imePending = s.imePending ∧ t.haltBug = s.haltBug ∧
      OnlyRegsChange [] [] { s.start with halted := t.halted } t)

/-- R321, R345 (decision D3): EI's own Step leaves IME and sets ime_pending; the Step of the next instruction, whatever it
is but DI, ends with IME = 1 and ime_pending = 0; a DI cancels the enable. -/
def Obligations.EiTakesEffectAfterTheNextInstruction : Prop :=
  ∀ (s : State) (i : Instr) (rest : List Byte), s.RunsInstruction →
    decode s.stopLength s.start.codeBytes = .ok (i, rest) → i.wellFormed = true →
    ∃ t, step s = .next t ∧
      (i = .ei → s.imePending = false → t.ime = s.ime ∧ t.imePending = true) ∧
      (s.imePending = true → i ≠ .di → t.ime = true ∧ t.imePending = false) ∧
      (i = .di → t.ime = false ∧ t.imePending = false)

/-- R29 (decision D3): a Step that changes IME enters an interrupt, runs DI or RETI, or commits a pending EI. -/
def Obligations.OnlyTheseStepsWriteIme : Prop :=
  ∀ s t : State, step s = .next t → t.ime ≠ s.ime →
    (t.ack ≠ none ∧ t.ime = false) ∨
    (∃ rest, decode s.stopLength s.start.codeBytes = .ok (.di, rest) ∧ t.ime = false) ∨
    (∃ rest, decode s.stopLength s.start.codeBytes = .ok (.reti, rest) ∧ t.ime = true) ∨
    (s.imePending = true ∧ t.imePending = false ∧ t.ime = true)

/-- R24: an instruction that changes SP is one of the list. -/
def Obligations.OnlyTheseInstructionsWriteSp : Prop :=
  ∀ (i : Instr) (s t : State), exec i s = .next t → t.sp ≠ s.sp → i.writesSp = true

/-- R349: every count a Step returns "is a positive multiple of 4". 24, the greatest of R348's table, bounds them. -/
def Obligations.CountsArePositiveMultiplesOfFour : Prop :=
  ∀ s t : State, step s = .next t → ∀ k, t.result = .ok k → 0 < k ∧ k % 4 = 0 ∧ k ≤ 24

/-- R36: the accumulator, like the other outputs of a Step, is reset at the start of every Step; what it held before does
not reach the Step, nor do the inputs sampled by the Step before and the bus's answers it left (log entries 2 and 4). -/
def Obligations.OutputsOfTheStepBeforeDoNotMatter : Prop :=
  ∀ (s : State) (irq : BitVec 5) (wake : Bool) (left : List Byte) (k : Nat) (x : Option Interrupt) (l : List BusEvent),
    step { s with irq := irq, wake := wake, answers := left, cycles := k, ack := x, bus := l } = step s

/-! ## The invariant -/

/-- From every state that meets the invariant, a Step that answers a next state gives one that meets it: the memory keeps
its canonical form, F's low nibble stays 0 (R23), the core is in at most one of halted, stopped and the halt bug, and a
saved error is UndefinedOpcode on one of the eleven opcodes at PC, never UnimplementedBehavior (R311). -/
def Obligations.EveryStepKeepsTheInvariant : Prop :=
  ∀ s t : State, s.Inv → step s = .next t → t.Inv

/-- The invariant holds of every constructed core, whatever INITIAL_STATE and STOP_LENGTH are (R23, R340), and so at
reset. -/
def Obligations.ConstructionMeetsTheInvariant : Prop :=
  (∀ (init : InitialState) (sl : StopLength), (State.construct init sl).Inv) ∧ State.reset.Inv

/-- R39: the registers' values at construction, the harness convention; F of a supplied initial state is masked (R23). The
six one-bit fields are decision D13's. -/
def Obligations.ConstructionValues : Prop :=
  (∀ r, State.reset.get8 r = 0x00) ∧ State.reset.pc = 0x0100 ∧ State.reset.sp = 0x0000 ∧
  ∀ (init : InitialState) (sl : StopLength),
    let s := State.construct init sl
    s.a = init.a ∧ s.f = init.f &&& 0xF0 ∧ s.b = init.b ∧ s.c = init.c ∧ s.d = init.d ∧ s.e = init.e ∧ s.h = init.h ∧
    s.l = init.l ∧ s.sp = init.sp ∧ s.pc = init.pc ∧ s.ime = false ∧ s.imePending = false ∧ s.halted = false ∧
    s.stopped = false ∧ s.haltBug = false ∧ s.locked = none

/-- R22: "register-pair reads always equal the composition of their constituent bytes"; a pair written reads back, AF with
F's low nibble 0, and no other register changes. -/
def Obligations.PairsAreViewsOfTheirBytes : Prop :=
  ∀ (s : State) (p : RegPair) (v : Word),
    (s.get16 p).toNat = 256 * (s.get8 p.high).toNat + (s.get8 p.low).toNat ∧
    (s.set16 p v).get8 p.high = hiByte v ∧
    (s.set16 p v).get8 p.low = (if p = .af then loByte v &&& 0xF0 else loByte v) ∧
    (∀ r, r ≠ p.high → r ≠ p.low → (s.set16 p v).get8 r = s.get8 r) ∧
    (s.set16 p v).sp = s.sp ∧ (s.set16 p v).pc = s.pc ∧ MemKept s (s.set16 p v)

/-! ## Loads (41_load.md) -/

/-- R111, R113, R114: LD between r8 operands, 63 instructions (0x76 is HALT). -/
def Obligations.LoadCopiesTheOperand : Prop :=
  ∀ (dst src : R8) (s : State), ¬(dst = .mhl ∧ src = .mhl) →
    (Instr.ofLd dst src).EncodedAs [0x40 + 8 * dst.code + src.code] ∧
    ∃ t, exec (.ofLd dst src) s = .next t ∧
      t.r8Holds dst = s.r8Value src ∧ OnlyR8Changes dst [] s t ∧
      t.cycles = (if dst = .mhl ∨ src = .mhl then 8 else 4) ∧
      Calls (s.r8Reads src ++ s.r8Writes dst (s.r8Value src)) s t

/-- R112, R115: LD of an immediate byte to a register or to (HL), 8 instructions. -/
def Obligations.LoadImmediateByte : Prop :=
  ∀ (dst : R8) (n8 : Byte) (s : State),
    (Instr.ofLdImm dst n8).EncodedAs [0x06 + 8 * dst.code, n8] ∧
    ∃ t, exec (.ofLdImm dst n8) s = .next t ∧
      t.r8Holds dst = n8 ∧ OnlyR8Changes dst [] s t ∧ t.cycles = r8Total dst 8 12 ∧ Calls (s.r8Writes dst n8) s t

/-- R116, R117, R120, R121: LD A through BC, DE, HL+ and HL-. -/
def Obligations.LoadAccumulatorThroughPointer : Prop :=
  ∀ (m : R16Mem) (s : State),
    (Instr.ofLoadA m).EncodedAs [0x0A + 16 * m.code] ∧
    ∃ t, exec (.ofLoadA m) s = .next t ∧
      t.get8 .a = s.answer 0 (s.memAddr m) ∧
      t.get16 .hl = (match m with
        | .bc | .de => s.get16 .hl
        | .hli => s.get16 .hl + 1
        | .hld => s.get16 .hl - 1) ∧
      OnlyRegsChange [.a, .h, .l] [] s t ∧ t.cycles = 8 ∧
      Calls [.read (s.memAddr m) (s.answer 0 (s.memAddr m))] s t

/-- R118, R119, R122, R123: LD of A through BC, DE, HL+ and HL-. -/
def Obligations.StoreAccumulatorThroughPointer : Prop :=
  ∀ (m : R16Mem) (s : State),
    (Instr.ofStoreA m).EncodedAs [0x02 + 16 * m.code] ∧
    ∃ t, exec (.ofStoreA m) s = .next t ∧
      t.byteAt (s.memAddr m) = s.get8 .a ∧ MemKeptOutside [s.memAddr m] s t ∧
      t.get16 .hl = (match m with
        | .bc | .de => s.get16 .hl
        | .hli => s.get16 .hl + 1
        | .hld => s.get16 .hl - 1) ∧
      RegsKept [.h, .l] s t ∧ FlagsKept [] s t ∧ t.sp = s.sp ∧ t.pc = s.pc ∧ ControlKept s t ∧ t.cycles = 8 ∧
      Calls [.write (s.memAddr m) (s.get8 .a)] s t

/-- R124, R126, R128: LD A,(a16), LDH A,(a8) and LD A,(C). -/
def Obligations.LoadAccumulatorFromAddress : Prop :=
  ∀ (a16 : Word) (a8 : Byte) (s : State) (i : Instr) (bytes : List Byte) (addr : Word) (total : Nat),
    (i, bytes, addr, total) ∈
      [(Instr.ld_a_ma16 a16, [0xFA, loByte a16, hiByte a16], a16, 16),
       (.ldh_a_ma8 a8, [0xF0, a8], 0xFF00 + zext16 a8, 12),
       (.ld_a_mc, [0xF2], 0xFF00 + zext16 (s.get8 .c), 8)] →
    i.EncodedAs bytes ∧
    ∃ t, exec i s = .next t ∧
      t.get8 .a = s.answer 0 addr ∧ OnlyRegsChange [.a] [] s t ∧ t.cycles = total ∧
      Calls [.read addr (s.answer 0 addr)] s t

/-- R125, R127, R129: LD (a16),A, LDH (a8),A and LD (C),A. -/
def Obligations.StoreAccumulatorAtAddress : Prop :=
  ∀ (a16 : Word) (a8 : Byte) (s : State) (i : Instr) (bytes : List Byte) (addr : Word) (total : Nat),
    (i, bytes, addr, total) ∈
      [(Instr.ld_ma16_a a16, [0xEA, loByte a16, hiByte a16], a16, 16),
       (.ldh_ma8_a a8, [0xE0, a8], 0xFF00 + zext16 a8, 12),
       (.ld_mc_a, [0xE2], 0xFF00 + zext16 (s.get8 .c), 8)] →
    i.EncodedAs bytes ∧
    ∃ t, exec i s = .next t ∧
      t.byteAt addr = s.get8 .a ∧ MemKeptOutside [addr] s t ∧
      RegsKept [] s t ∧ FlagsKept [] s t ∧ t.sp = s.sp ∧ t.pc = s.pc ∧ ControlKept s t ∧ t.cycles = total ∧
      Calls [.write addr (s.get8 .a)] s t

/-- R130: LD rr,n16, the low byte first in the instruction and in the low register. -/
def Obligations.LoadPairImmediate : Prop :=
  ∀ (p : R16) (n16 : Word) (s : State),
    (Instr.ofLd16 p n16).EncodedAs [0x01 + 16 * p.code, loByte n16, hiByte n16] ∧
    ∃ t, exec (.ofLd16 p n16) s = .next t ∧
      t.getR16 p = n16 ∧ (p ≠ .sp → t.sp = s.sp) ∧
      RegsKept (r16Regs p) s t ∧ FlagsKept [] s t ∧ t.pc = s.pc ∧ ControlKept s t ∧ MemKept s t ∧
      t.cycles = 12 ∧ Calls [] s t

/-- R131: LD HL,SP+e8; H and C are the carries out of bits 3 and 7 of the unsigned low-byte add. -/
def Obligations.LoadHlFromSpPlusDisplacement : Prop :=
  ∀ (e8 : Byte) (s : State),
    (Instr.ld_hl_sp_e8 e8).EncodedAs [0xF8, e8] ∧
    ∃ t, exec (.ld_hl_sp_e8 e8) s = .next t ∧
      ((t.get16 .hl).toNat : Int) = ((s.sp.toNat : Int) + e8.toInt) % 65536 ∧
      t.getFlag .z = false ∧ t.getFlag .n = false ∧
      t.getFlag .h = decide (s.sp.toNat % 16 + e8.toNat % 16 > 0xF) ∧
      t.getFlag .c = decide (s.sp.toNat % 256 + e8.toNat > 0xFF) ∧
      OnlyRegsChange [.h, .l] [.z, .n, .h, .c] s t ∧ t.cycles = 12 ∧ Calls [] s t

/-- R132: LD SP,HL. -/
def Obligations.LoadSpFromHl : Prop :=
  ∀ s : State,
    Instr.ld_sp_hl.EncodedAs [0xF9] ∧
    ∃ t, exec .ld_sp_hl s = .next t ∧
      t.sp.toNat = 256 * (s.get8 .h).toNat + (s.get8 .l).toNat ∧
      RegsKept [] s t ∧ FlagsKept [] s t ∧ t.pc = s.pc ∧ ControlKept s t ∧ MemKept s t ∧ t.cycles = 8 ∧ Calls [] s t

/-- R133: LD (a16),SP, the low byte first; the address above 0xFFFF is 0x0000. -/
def Obligations.StoreSpAtAddress : Prop :=
  ∀ (a16 : Word) (s : State),
    (Instr.ld_ma16_sp a16).EncodedAs [0x08, loByte a16, hiByte a16] ∧
    ∃ t, exec (.ld_ma16_sp a16) s = .next t ∧
      t.byteAt a16 = loByte s.sp ∧ t.byteAt (a16 + 1) = hiByte s.sp ∧ MemKeptOutside [a16, a16 + 1] s t ∧
      RegsKept [] s t ∧ FlagsKept [] s t ∧ t.sp = s.sp ∧ t.pc = s.pc ∧ ControlKept s t ∧ t.cycles = 20 ∧
      Calls [.write a16 (loByte s.sp), .write (a16 + 1) (hiByte s.sp)] s t

/-! ## Arithmetic, logic, compare (42_arithmetic.md, 43_logical.md, 44_compare.md) -/

/-- R141: ADD A,X in its nine forms. -/
def Obligations.AddResultAndFlags : Prop :=
  ∀ (x : AluSrc) (s : State),
    let a := (s.get8 .a).toNat
    let v := (s.srcValue x).toNat
    (aluInstr .add x).EncodedAs (aluBytes .add x) ∧
    ∃ t, exec (aluInstr .add x) s = .next t ∧
      (t.get8 .a).toNat = (a + v) % 256 ∧
      t.getFlag .z = decide ((a + v) % 256 = 0) ∧ t.getFlag .n = false ∧
      t.getFlag .h = decide (a % 16 + v % 16 ≥ 0x10) ∧ t.getFlag .c = decide (a + v > 0xFF) ∧
      OnlyRegsChange [.a] [.z, .n, .h, .c] s t ∧ t.cycles = srcTotal x ∧ Calls (s.srcReads x) s t

/-- R142: ADC A,X in its nine forms; c is the carry before. -/
def Obligations.AddWithCarryResultAndFlags : Prop :=
  ∀ (x : AluSrc) (s : State),
    let a := (s.get8 .a).toNat
    let v := (s.srcValue x).toNat
    let c : Nat := if s.getFlag .c then 1 else 0
    (aluInstr .adc x).EncodedAs (aluBytes .adc x) ∧
    ∃ t, exec (aluInstr .adc x) s = .next t ∧
      (t.get8 .a).toNat = (a + v + c) % 256 ∧
      t.getFlag .z = decide ((a + v + c) % 256 = 0) ∧ t.getFlag .n = false ∧
      t.getFlag .h = decide (a % 16 + v % 16 + c ≥ 0x10) ∧ t.getFlag .c = decide (a + v + c > 0xFF) ∧
      OnlyRegsChange [.a] [.z, .n, .h, .c] s t ∧ t.cycles = srcTotal x ∧ Calls (s.srcReads x) s t

/-- R143: SUB X in its nine forms. -/
def Obligations.SubtractResultAndFlags : Prop :=
  ∀ (x : AluSrc) (s : State),
    let a := (s.get8 .a).toNat
    let v := (s.srcValue x).toNat
    (aluInstr .sub x).EncodedAs (aluBytes .sub x) ∧
    ∃ t, exec (aluInstr .sub x) s = .next t ∧
      ((t.get8 .a).toNat : Int) = ((a : Int) - v) % 256 ∧
      t.getFlag .z = decide (((a : Int) - v) % 256 = 0) ∧ t.getFlag .n = true ∧
      t.getFlag .h = decide (a % 16 < v % 16) ∧ t.getFlag .c = decide (a < v) ∧
      OnlyRegsChange [.a] [.z, .n, .h, .c] s t ∧ t.cycles = srcTotal x ∧ Calls (s.srcReads x) s t

/-- R144: SBC A,X in its nine forms; c is the carry before. -/
def Obligations.SubtractWithCarryResultAndFlags : Prop :=
  ∀ (x : AluSrc) (s : State),
    let a := (s.get8 .a).toNat
    let v := (s.srcValue x).toNat
    let c : Nat := if s.getFlag .c then 1 else 0
    (aluInstr .sbc x).EncodedAs (aluBytes .sbc x) ∧
    ∃ t, exec (aluInstr .sbc x) s = .next t ∧
      ((t.get8 .a).toNat : Int) = ((a : Int) - v - c) % 256 ∧
      t.getFlag .z = decide (((a : Int) - v - c) % 256 = 0) ∧ t.getFlag .n = true ∧
      t.getFlag .h = decide (a % 16 < v % 16 + c) ∧ t.getFlag .c = decide (a < v + c) ∧
      OnlyRegsChange [.a] [.z, .n, .h, .c] s t ∧ t.cycles = srcTotal x ∧ Calls (s.srcReads x) s t

/-- R160, R161, R162: AND, XOR and OR, 27 instructions, bit by bit; H is 1 for AND and 0 for the others. -/
def Obligations.LogicalResultAndFlags : Prop :=
  ∀ (op : AluOp) (bit : Bool → Bool → Bool) (half : Bool) (x : AluSrc) (s : State),
    (op, bit, half) ∈ [(AluOp.and, and, true), (.xor, xor, false), (.or, or, false)] →
    (aluInstr op x).EncodedAs (aluBytes op x) ∧
    ∃ t, exec (aluInstr op x) s = .next t ∧
      (∀ k < 8, (t.get8 .a).getLsbD k = bit ((s.get8 .a).getLsbD k) ((s.srcValue x).getLsbD k)) ∧
      t.getFlag .z = decide (t.get8 .a = 0) ∧ t.getFlag .n = false ∧ t.getFlag .h = half ∧ t.getFlag .c = false ∧
      OnlyRegsChange [.a] [.z, .n, .h, .c] s t ∧ t.cycles = srcTotal x ∧ Calls (s.srcReads x) s t

/-- R180: CP X in its nine forms; A is not written. -/
def Obligations.CompareSetsFlagsOnly : Prop :=
  ∀ (x : AluSrc) (s : State),
    let a := (s.get8 .a).toNat
    let v := (s.srcValue x).toNat
    (aluInstr .cp x).EncodedAs (aluBytes .cp x) ∧
    ∃ t, exec (aluInstr .cp x) s = .next t ∧
      t.getFlag .z = decide (a = v) ∧ t.getFlag .n = true ∧
      t.getFlag .h = decide (a % 16 < v % 16) ∧ t.getFlag .c = decide (a < v) ∧
      OnlyRegsChange [] [.z, .n, .h, .c] s t ∧ t.cycles = srcTotal x ∧ Calls (s.srcReads x) s t

/-- R146: ADD HL,rr; H out of bit 11, C out of bit 15, Z unchanged. -/
def Obligations.AddToHlResultAndFlags : Prop :=
  ∀ (p : R16) (s : State),
    let hl := (s.get16 .hl).toNat
    let v := (s.getR16 p).toNat
    (Instr.ofAddHl p).EncodedAs [0x09 + 16 * p.code] ∧
    ∃ t, exec (.ofAddHl p) s = .next t ∧
      (t.get16 .hl).toNat = (hl + v) % 65536 ∧
      t.getFlag .n = false ∧ t.getFlag .h = decide (hl % 4096 + v % 4096 > 0xFFF) ∧
      t.getFlag .c = decide (hl + v > 0xFFFF) ∧
      OnlyRegsChange [.h, .l] [.n, .h, .c] s t ∧ t.cycles = 8 ∧ Calls [] s t

/-- R145: ADD SP,e8. -/
def Obligations.AddDisplacementToSp : Prop :=
  ∀ (e8 : Byte) (s : State),
    (Instr.add_sp_e8 e8).EncodedAs [0xE8, e8] ∧
    ∃ t, exec (.add_sp_e8 e8) s = .next t ∧
      (t.sp.toNat : Int) = ((s.sp.toNat : Int) + e8.toInt) % 65536 ∧
      t.getFlag .z = false ∧ t.getFlag .n = false ∧
      t.getFlag .h = decide (s.sp.toNat % 16 + e8.toNat % 16 > 0xF) ∧
      t.getFlag .c = decide (s.sp.toNat % 256 + e8.toNat > 0xFF) ∧
      RegsKept [] s t ∧ t.pc = s.pc ∧ ControlKept s t ∧ MemKept s t ∧ t.cycles = 16 ∧ Calls [] s t

/-- R147: DAA, total over every A and N, H, C (decision D18). -/
def Obligations.DecimalAdjust : Prop :=
  ∀ s : State,
    let a : Int := (s.get8 .a).toNat
    let high := s.getFlag .c || (!s.getFlag .n && decide (a > 0x99))
    let low := s.getFlag .h || (!s.getFlag .n && decide (a % 16 > 9))
    let by_ : Int := (if high then 0x60 else 0) + (if low then 0x06 else 0)
    let res := (if s.getFlag .n then a - by_ else a + by_) % 256
    Instr.daa.EncodedAs [0x27] ∧
    ∃ t, exec .daa s = .next t ∧
      ((t.get8 .a).toNat : Int) = res ∧
      t.getFlag .z = decide (res = 0) ∧ t.getFlag .h = false ∧ t.getFlag .c = high ∧
      OnlyRegsChange [.a] [.z, .h, .c] s t ∧ t.cycles = 4 ∧ Calls [] s t

/-- What DAA is for (R147, R141, R143): after ADD or SUB of two packed BCD bytes, DAA leaves the packed BCD sum or
difference mod 100, and C tells the decimal carry or borrow. -/
def Obligations.DecimalAdjustCorrectsBcd : Prop :=
  ∀ (x y : Nat) (src : AluSrc) (s : State), x < 100 → y < 100 → s.get8 .a = bcd x → s.srcValue src = bcd y →
    (∃ t u, exec (aluInstr .add src) s = .next t ∧ exec .daa t = .next u ∧
      u.get8 .a = bcd ((x + y) % 100) ∧ u.getFlag .c = decide (100 ≤ x + y)) ∧
    (∃ t u, exec (aluInstr .sub src) s = .next t ∧ exec .daa t = .next u ∧
      u.get8 .a = bcd ((x + 100 - y) % 100) ∧ u.getFlag .c = decide (x < y))

/-- R163, R164, R165: CPL, SCF and CCF. -/
def Obligations.ComplementAndCarryFlag : Prop :=
  ∀ s : State,
    (Instr.cpl.EncodedAs [0x2F] ∧ ∃ t, exec .cpl s = .next t ∧
      (t.get8 .a).toNat = 0xFF - (s.get8 .a).toNat ∧ t.getFlag .n = true ∧ t.getFlag .h = true ∧
      OnlyRegsChange [.a] [.n, .h] s t ∧ t.cycles = 4 ∧ Calls [] s t) ∧
    (Instr.scf.EncodedAs [0x37] ∧ ∃ t, exec .scf s = .next t ∧
      t.getFlag .n = false ∧ t.getFlag .h = false ∧ t.getFlag .c = true ∧
      OnlyRegsChange [] [.n, .h, .c] s t ∧ t.cycles = 4 ∧ Calls [] s t) ∧
    (Instr.ccf.EncodedAs [0x3F] ∧ ∃ t, exec .ccf s = .next t ∧
      t.getFlag .n = false ∧ t.getFlag .h = false ∧ t.getFlag .c = (s.getFlag .c == false) ∧
      OnlyRegsChange [] [.n, .h, .c] s t ∧ t.cycles = 4 ∧ Calls [] s t)

/-! ## Increment and decrement (45_incdec.md) -/

/-- R190, R192: INC of a register or of (HL), 8 instructions; C unchanged. -/
def Obligations.IncrementByte : Prop :=
  ∀ (r : R8) (s : State),
    let v := (s.r8Value r).toNat
    (Instr.ofInc8 r).EncodedAs [0x04 + 8 * r.code] ∧
    ∃ t, exec (.ofInc8 r) s = .next t ∧
      (t.r8Holds r).toNat = (v + 1) % 256 ∧
      t.getFlag .z = decide ((v + 1) % 256 = 0) ∧ t.getFlag .n = false ∧ t.getFlag .h = decide (v % 16 = 0xF) ∧
      OnlyR8Changes r [.z, .n, .h] s t ∧ t.cycles = r8Total r 4 12 ∧
      Calls (s.r8Reads r ++ s.r8Writes r (BitVec.ofNat 8 (v + 1))) s t

/-- R191, R193: DEC of a register or of (HL), 8 instructions; C unchanged. -/
def Obligations.DecrementByte : Prop :=
  ∀ (r : R8) (s : State),
    let v := (s.r8Value r).toNat
    (Instr.ofDec8 r).EncodedAs [0x05 + 8 * r.code] ∧
    ∃ t, exec (.ofDec8 r) s = .next t ∧
      ((t.r8Holds r).toNat : Int) = ((v : Int) - 1) % 256 ∧
      t.getFlag .z = decide (v = 1) ∧ t.getFlag .n = true ∧ t.getFlag .h = decide (v % 16 = 0) ∧
      OnlyR8Changes r [.z, .n, .h] s t ∧ t.cycles = r8Total r 4 12 ∧
      Calls (s.r8Reads r ++ s.r8Writes r (BitVec.ofInt 8 ((v : Int) - 1))) s t

/-- R194, R195: INC and DEC of a pair or SP, 8 instructions; no flag. -/
def Obligations.IncrementAndDecrementPair : Prop :=
  ∀ (p : R16) (s : State) (i : Instr) (byte : Byte) (d : Int),
    (i, byte, d) ∈ [(Instr.ofInc16 p, 0x03 + 16 * p.code, 1), (Instr.ofDec16 p, 0x0B + 16 * p.code, -1)] →
    i.EncodedAs [byte] ∧
    ∃ t, exec i s = .next t ∧
      ((t.getR16 p).toNat : Int) = (((s.getR16 p).toNat : Int) + d) % 65536 ∧ (p ≠ .sp → t.sp = s.sp) ∧
      RegsKept (r16Regs p) s t ∧ FlagsKept [] s t ∧ t.pc = s.pc ∧ ControlKept s t ∧ MemKept s t ∧
      t.cycles = 8 ∧ Calls [] s t

/-! ## Control transfer (46_control.md). PC of `s` is the address after the instruction (10_state.md R28). -/

/-- R211, R212, R213: JP a16, JP HL and JP cc,a16, 6 instructions. -/
def Obligations.JumpToAddress : Prop :=
  ∀ (a16 : Word) (cc : Cc) (s : State) (i : Instr) (bytes : List Byte) (taken : Bool) (target : Word) (total : Nat),
    (i, bytes, taken, target, total) ∈
      [(Instr.jp_a16 a16, [0xC3, loByte a16, hiByte a16], true, a16, 16),
       (.jp_hl, [0xE9], true, s.get16 .hl, 4),
       (.ofJp cc a16, [0xC2 + 8 * cc.code, loByte a16, hiByte a16], s.holds cc, a16, if s.holds cc then 16 else 12)] →
    i.EncodedAs bytes ∧
    ∃ t, exec i s = .next t ∧ t.pc = (if taken then target else s.pc) ∧ OnlyPcChanges s t ∧ t.cycles = total ∧
      Calls [] s t

/-- R214, R215: JR e8 and JR cc,e8, 5 instructions. -/
def Obligations.JumpRelative : Prop :=
  ∀ (e8 : Byte) (cc : Cc) (s : State) (i : Instr) (bytes : List Byte) (taken : Bool) (total : Nat),
    (i, bytes, taken, total) ∈
      [(Instr.jr_e8 e8, [0x18, e8], true, 12),
       (.ofJr cc e8, [0x20 + 8 * cc.code, e8], s.holds cc, if s.holds cc then 12 else 8)] →
    i.EncodedAs bytes ∧
    ∃ t, exec i s = .next t ∧
      (t.pc.toNat : Int) = ((s.pc.toNat : Int) + (if taken then e8.toInt else 0)) % 65536 ∧
      OnlyPcChanges s t ∧ t.cycles = total ∧ Calls [] s t

/-- R216, R221: CALL a16 and RST t, 9 instructions, and R217's CALL cc,a16 where the condition holds, 4 instructions: the
address after the instruction is pushed, high byte first (the order of the two writes is decision D9's). -/
def Obligations.CallPushesTheReturnAddress : Prop :=
  ∀ (a16 : Word) (rst : Fin 8) (cc : Cc) (s : State) (i : Instr) (bytes : List Byte) (target : Word) (total : Nat),
    (i, bytes, target, total) ∈
      [(Instr.call_a16 a16, [0xCD, loByte a16, hiByte a16], a16, 24),
       (.ofRst rst, [0xC7 + 8 * BitVec.ofNat 8 rst.val], BitVec.ofNat 16 (8 * rst.val), 16)] ++
      (if s.holds cc then
        [(Instr.ofCall cc a16, [0xC4 + 8 * cc.code, loByte a16, hiByte a16], a16, 24)]
       else []) →
    i.EncodedAs bytes ∧
    ∃ t, exec i s = .next t ∧
      t.pc = target ∧ t.sp = s.sp - 2 ∧ t.byteAt (s.sp - 1) = hiByte s.pc ∧ t.byteAt (s.sp - 2) = loByte s.pc ∧
      MemKeptOutside [s.sp - 1, s.sp - 2] s t ∧ RegsKept [] s t ∧ FlagsKept [] s t ∧ ControlKept s t ∧
      t.cycles = total ∧ Calls [.write (s.sp - 1) (hiByte s.pc), .write (s.sp - 2) (loByte s.pc)] s t

/-- R218, R219, R220: RET and RETI, and RET cc where the condition holds, 6 instructions. RETI's IME = 1 at once is
decision D3's too. -/
def Obligations.ReturnPopsTheReturnAddress : Prop :=
  ∀ (cc : Cc) (s : State) (i : Instr) (byte : Byte) (ime : Bool) (total : Nat),
    (i, byte, ime, total) ∈
      [(Instr.ret, 0xC9, s.ime, 16), (.reti, 0xD9, true, 16)] ++
      (if s.holds cc then [(Instr.ofRet cc, 0xC0 + 8 * cc.code, s.ime, 20)] else []) →
    i.EncodedAs [byte] ∧
    ∃ t, exec i s = .next t ∧
      t.pc.toNat = 256 * (s.answer 1 (s.sp + 1)).toNat + (s.answer 0 s.sp).toNat ∧ t.sp = s.sp + 2 ∧
      RegsKept [] s t ∧ FlagsKept [] s t ∧ ControlKept { s with ime := ime } t ∧ MemKept s t ∧ t.cycles = total ∧
      Calls [.read s.sp (s.answer 0 s.sp), .read (s.sp + 1) (s.answer 1 (s.sp + 1))] s t

/-- R210, R217, R219: a CALL cc or RET cc whose condition is false changes nothing but the cycle count, and makes no stack
access; PC already points past the instruction. -/
def Obligations.UntakenCallAndReturnDoNothing : Prop :=
  ∀ (a16 : Word) (cc : Cc) (s : State), s.holds cc = false →
    (∃ t, exec (.ofCall cc a16) s = .next t ∧ OnlyRegsChange [] [] s t ∧ t.cycles = 12 ∧ Calls [] s t) ∧
    (∃ t, exec (.ofRet cc) s = .next t ∧ OnlyRegsChange [] [] s t ∧ t.cycles = 8 ∧ Calls [] s t)

/-! ## Rotates, shifts and bits (47_bit.md) -/

/-- R240 to R243: RLCA, RRCA, RLA and RRA; Z is always 0. -/
def Obligations.AccumulatorRotates : Prop :=
  ∀ (op : RotOp) (i : Instr) (s : State),
    (op, i) ∈ [(RotOp.rlc, Instr.rlca), (.rrc, .rrca), (.rl, .rla), (.rr, .rra)] →
    i.EncodedAs [0x07 + 8 * op.code] ∧
    ∃ t, exec i s = .next t ∧
      (∀ k < 8, (t.get8 .a).getLsbD k = rotBit op (s.get8 .a) (s.getFlag .c) k) ∧
      t.getFlag .z = false ∧ t.getFlag .n = false ∧ t.getFlag .h = false ∧ t.getFlag .c = rotCarry op (s.get8 .a) ∧
      OnlyRegsChange [.a] [.z, .n, .h, .c] s t ∧ t.cycles = 4 ∧ Calls [] s t

/-- R245 to R252: RLC, RRC, RL, RR, SLA, SRA, SWAP and SRL on every r8 operand, 64 instructions. -/
def Obligations.RotatesAndShifts : Prop :=
  ∀ (op : RotOp) (r : R8) (s : State),
    (Instr.ofRot op r).EncodedAs [0xCB, 8 * op.code + r.code] ∧
    ∃ t, exec (.ofRot op r) s = .next t ∧
      (∀ k < 8, (t.r8Holds r).getLsbD k = rotBit op (s.r8Value r) (s.getFlag .c) k) ∧
      t.getFlag .z = decide (t.r8Holds r = 0) ∧ t.getFlag .n = false ∧ t.getFlag .h = false ∧
      t.getFlag .c = rotCarry op (s.r8Value r) ∧
      OnlyR8Changes r [.z, .n, .h, .c] s t ∧ t.cycles = r8Total r 8 16 ∧
      Calls (s.r8Reads r ++ s.r8Writes r (t.r8Holds r)) s t

/-- R253: BIT b on every r8 operand, 64 instructions; nothing is written. -/
def Obligations.BitTest : Prop :=
  ∀ (b : Fin 8) (r : R8) (s : State),
    (Instr.ofBit b r).EncodedAs [0xCB, 0x40 + 8 * BitVec.ofNat 8 b.val + r.code] ∧
    ∃ t, exec (.ofBit b r) s = .next t ∧
      t.getFlag .z = ((s.r8Value r).getLsbD b == false) ∧ t.getFlag .n = false ∧ t.getFlag .h = true ∧
      OnlyRegsChange [] [.z, .n, .h] s t ∧ t.cycles = r8Total r 8 12 ∧ Calls (s.r8Reads r) s t

/-- R254, R255: RES b and SET b on every r8 operand, 128 instructions; on (HL) the byte is written even where it already
holds the value. -/
def Obligations.ResetAndSetBit : Prop :=
  ∀ (b : Fin 8) (r : R8) (s : State) (i : Instr) (base : Byte) (v : Bool),
    (i, base, v) ∈ [(Instr.ofRes b r, 0x80, false), (Instr.ofSet b r, 0xC0, true)] →
    i.EncodedAs [0xCB, base + 8 * BitVec.ofNat 8 b.val + r.code] ∧
    ∃ t, exec i s = .next t ∧
      (∀ k < 8, (t.r8Holds r).getLsbD k = if k = b.val then v else (s.r8Value r).getLsbD k) ∧
      OnlyR8Changes r [] s t ∧ t.cycles = r8Total r 8 16 ∧
      Calls (s.r8Reads r ++ s.r8Writes r (t.r8Holds r)) s t

/-! ## The stack (48_stack.md) -/

/-- R271: PUSH; PUSH AF pushes F with its low nibble 0 (R23). The order of the two writes is decision D9's. -/
def Obligations.PushStoresThePair : Prop :=
  ∀ (p : R16Stk) (s : State),
    (Instr.ofPush p).EncodedAs [0xC5 + 16 * p.code] ∧
    ∃ t, exec (.ofPush p) s = .next t ∧
      t.sp = s.sp - 2 ∧ t.byteAt (s.sp - 1) = s.get8 (stkPair p).high ∧ t.byteAt (s.sp - 2) = s.get8 (stkPair p).low ∧
      MemKeptOutside [s.sp - 1, s.sp - 2] s t ∧ RegsKept [] s t ∧ FlagsKept [] s t ∧ t.pc = s.pc ∧ ControlKept s t ∧
      t.cycles = 16 ∧
      Calls [.write (s.sp - 1) (s.get8 (stkPair p).high), .write (s.sp - 2) (s.get8 (stkPair p).low)] s t

/-- R272, R273: POP; POP AF takes the flags from bits 7 to 4 of the byte at the lower address, and F's low nibble stays 0. -/
def Obligations.PopLoadsThePair : Prop :=
  ∀ (p : R16Stk) (s : State),
    (Instr.ofPop p).EncodedAs [0xC1 + 16 * p.code] ∧
    ∃ t, exec (.ofPop p) s = .next t ∧
      t.sp = s.sp + 2 ∧ t.get8 (stkPair p).high = s.answer 1 (s.sp + 1) ∧
      t.get8 (stkPair p).low = (if p = .af then s.answer 0 s.sp &&& 0xF0 else s.answer 0 s.sp) ∧
      (p = .af → ∀ fl, t.getFlag fl = (s.answer 0 s.sp).getLsbD fl.bit) ∧ (p ≠ .af → FlagsKept [] s t) ∧
      RegsKept [(stkPair p).high, (stkPair p).low] s t ∧ t.pc = s.pc ∧ ControlKept s t ∧ MemKept s t ∧ t.cycles = 12 ∧
      Calls [.read s.sp (s.answer 0 s.sp), .read (s.sp + 1) (s.answer 1 (s.sp + 1))] s t

/-! ## System (49_system.md) -/

/-- R280: NOP. -/
def Obligations.NopDoesNothing : Prop :=
  ∀ s : State,
    Instr.nop.EncodedAs [0x00] ∧
    ∃ t, exec .nop s = .next t ∧ OnlyRegsChange [] [] s t ∧ t.cycles = 4 ∧ Calls [] s t

/-- HALT of 49_system.md (decisions D4, D5): with IME = 0 and a request pending the core does not halt and the halt bug is
set; in every other case it halts. -/
def Obligations.HaltHaltsOrSetsTheHaltBug : Prop :=
  ∀ s : State,
    Instr.halt.EncodedAs [0x76] ∧
    ∃ t, exec .halt s = .next t ∧
      RegsKept [] s t ∧ FlagsKept [] s t ∧ t.sp = s.sp ∧ t.pc = s.pc ∧ MemKept s t ∧ t.cycles = 4 ∧ Calls [] s t ∧
      (s.ime = false ∧ s.irq ≠ 0 → ControlKept { s with haltBug := true } t) ∧
      (¬(s.ime = false ∧ s.irq ≠ 0) → ControlKept { s with halted := true } t)

/-- STOP of 49_system.md (decision D6), for both values of STOP_LENGTH: the core is stopped, and with STOP_LENGTH = 2 PC
passes one more byte, which is not read. -/
def Obligations.StopSkipsItsByteAndStops : Prop :=
  ∀ s : State,
    encode .one .stop = [0x10] ∧ encode .two .stop = [0x10, 0x00] ∧
    ∃ t, exec .stop s = .next t ∧
      t.pc = (match s.stopLength with
        | .one => s.pc
        | .two => s.pc + 1) ∧
      RegsKept [] s t ∧ FlagsKept [] s t ∧ t.sp = s.sp ∧ ControlKept { s with stopped := true } t ∧ MemKept s t ∧
      t.cycles = 4 ∧ Calls [] s t

/-- DI and EI of 49_system.md (decision D3). -/
def Obligations.DiAndEi : Prop :=
  ∀ s : State,
    (Instr.di.EncodedAs [0xF3] ∧ ∃ t, exec .di s = .next t ∧
      RegsKept [] s t ∧ FlagsKept [] s t ∧ t.sp = s.sp ∧ t.pc = s.pc ∧ MemKept s t ∧
      ControlKept { s with ime := false, imePending := false } t ∧ t.cycles = 4 ∧ Calls [] s t) ∧
    (Instr.ei.EncodedAs [0xFB] ∧ ∃ t, exec .ei s = .next t ∧
      RegsKept [] s t ∧ FlagsKept [] s t ∧ t.sp = s.sp ∧ t.pc = s.pc ∧ MemKept s t ∧
      ControlKept { s with imePending := true } t ∧ t.cycles = 4 ∧ Calls [] s t)

/-- The eleven undefined markers (49_system.md; decision D7), run on the state of before the Step: each is one of the
undefined opcodes, and running it sets locked with that opcode and PC and changes nothing else. -/
def Obligations.UndefinedMarkersSaveTheError : Prop :=
  ∀ (i : Instr) (op : Byte) (s : State), i.undefinedByte = some op →
    op ∈ undefinedOpcodes ∧ i.EncodedAs [op] ∧
    ∃ t, exec i s = .next t ∧ t.locked = some (.undefinedOpcode op s.pc) ∧
      OnlyRegsChange [] [] { s with locked := t.locked } t ∧ t.cycles = s.cycles ∧ Calls [] s t

/-- R285: the prefix marker reads the byte at PC, advances PC, and executes the instruction of the CB map that the byte
selects, as that instruction's own constructor is executed. -/
def Obligations.PrefixRunsTheCbInstruction : Prop :=
  ∀ s : State,
    Instr.prefix_cb.EncodedAs [0xCB] ∧
    exec .prefix_cb s =
      exec (decodeCb (s.answer 0 s.pc))
        { s with pc := s.pc + 1, answers := s.answers.drop 1, bus := s.bus ++ [.read s.pc (s.answer 0 s.pc)] } ∧
    ∃ t, exec .prefix_cb s = .next t
end

