-- ==== Sys2Proof/Laws/Bits.lean ====
section
/-! SUPPORT. The laws of the byte-order helpers, of the flags as a byte, and of the rotates bit by bit. -/

namespace Sys2Proof

@[simp] theorem hiByte_ofBytes (hi lo : Byte) : hiByte (ofBytes hi lo) = hi := by
  ext i h
  simp [hiByte, ofBytes, h, show 8 + i < 16 by omega]

@[simp] theorem loByte_ofBytes (hi lo : Byte) : loByte (ofBytes hi lo) = lo := by
  ext i h
  simp [loByte, ofBytes, h, show i < 16 by omega]

@[simp] theorem ofBytes_hi_lo (v : Word) : ofBytes (hiByte v) (loByte v) = v := by
  ext i hi
  by_cases h : i < 8
  · simp [hiByte, loByte, ofBytes, h, hi]
  · simp [hiByte, loByte, ofBytes, h, hi, show i - 8 < 8 by omega, show 8 + (i - 8) = i by omega]

namespace Machine

/-- F as a byte has its low nibble 0 (10_state.md R25). -/
theorem Flags.toByte_low (x : Flags) : x.toByte &&& 0x0F = 0 := by
  obtain ⟨z, n, h, c⟩ := x
  revert z n h c
  decide

/-- Masking F's low nibble changes nothing once the flags have been written. -/
theorem Flags.toByte_mask (x : Flags) : x.toByte &&& 0xF0 = x.toByte := by
  obtain ⟨z, n, h, c⟩ := x
  revert z n h c
  decide

theorem Flags.toByte_bits (x : Flags) :
    x.toByte.getLsbD 7 = x.z ∧ x.toByte.getLsbD 6 = x.n ∧ x.toByte.getLsbD 5 = x.h ∧ x.toByte.getLsbD 4 = x.c := by
  obtain ⟨z, n, h, c⟩ := x
  revert z n h c
  decide

@[simp] theorem getFlag_setFlags_z (s : State) (x : Flags) : (s.setFlags x).getFlag .z = x.z := (Flags.toByte_bits x).1
@[simp] theorem getFlag_setFlags_n (s : State) (x : Flags) : (s.setFlags x).getFlag .n = x.n := (Flags.toByte_bits x).2.1
@[simp] theorem getFlag_setFlags_h (s : State) (x : Flags) : (s.setFlags x).getFlag .h = x.h := (Flags.toByte_bits x).2.2.1
@[simp] theorem getFlag_setFlags_c (s : State) (x : Flags) : (s.setFlags x).getFlag .c = x.c := (Flags.toByte_bits x).2.2.2

/-- `set_flag` changes its flag and no other (R21). -/
theorem getFlag_setFlag (s : State) (fl g : Flag) (v : Bool) :
    (s.setFlag fl v).getFlag g = if g = fl then v else s.getFlag g := by
  cases fl <;> cases g <;> simp [State.setFlag, State.flags]

theorem bitByte_getLsbD : ∀ (b : Bool) (k : Fin 8), (bitByte b).getLsbD k = (decide (k.val = 0) && b) := by decide

theorem bitByte_getElem (b : Bool) (k : Nat) (hk : k < 8) : (bitByte b)[k] = (decide (k = 0) && b) := by
  simpa [BitVec.getLsbD_eq_getElem hk] using bitByte_getLsbD b ⟨k, hk⟩

/-- The result of a rotate, shift or swap is the one stated bit by bit (47_bit.md). -/
theorem rotate_bit (op : RotOp) (v : Byte) (c : Bool) (k : Nat) (hk : k < 8) :
    (rotate op v c).1.getLsbD k = rotBit op v c k := by
  cases op <;> interval_cases k <;> simp [rotate, rotBit, bitByte_getElem]

theorem rotate_carry (op : RotOp) (v : Byte) (c : Bool) : (rotate op v c).2 = rotCarry op v := by
  cases op <;> rfl

end Machine

end Sys2Proof
end

