-- ==== Sys2Proof/Laws/Memory.lean ====
section
/-! SUPPORT. The laws of memory: read after write, the canonical form kept by every operation, equal memories equal data. -/

namespace Sys2Proof.Machine.Memory

@[simp] theorem read_nil (a : Nat) : read [] a = Config.unlistedByte := rfl

theorem read_cons (k : Nat) (v : Byte) (m : Memory) (a : Nat) :
    read ((k, v) :: m) a = if k = a then v else read m a := rfl

theorem read_erase_same (m : Memory) (a : Nat) : read (erase m a) a = Config.unlistedByte := by
  induction m with
  | nil => rfl
  | cons c m ih =>
    obtain ⟨k, v⟩ := c
    by_cases h : k = a <;> simp [erase, read_cons, h, ih]

theorem read_erase_ne (m : Memory) {a b : Nat} (h : b ≠ a) : read (erase m a) b = read m b := by
  induction m with
  | nil => rfl
  | cons c m ih =>
    obtain ⟨k, v⟩ := c
    by_cases hk : k = a
    · simp [erase, read_cons, hk, ih, Ne.symm h]
    · simp [erase, read_cons, hk, ih]

theorem read_insert_same (m : Memory) (a : Nat) (v : Byte) : read (insert m a v) a = v := by
  induction m with
  | nil => simp [insert, read_cons]
  | cons c m ih =>
    obtain ⟨k, x⟩ := c
    by_cases h1 : a < k
    · simp [insert, h1, read_cons]
    · by_cases h2 : a = k
      · simp [insert, h2, read_cons]
      · simp [insert, h1, h2, read_cons, ih, Ne.symm h2]

theorem read_insert_ne (m : Memory) {a b : Nat} (v : Byte) (h : b ≠ a) : read (insert m a v) b = read m b := by
  induction m with
  | nil => simp [insert, read_cons, Ne.symm h]
  | cons c m ih =>
    obtain ⟨k, x⟩ := c
    by_cases h1 : a < k
    · simp [insert, h1, read_cons, Ne.symm h]
    · by_cases h2 : a = k
      · subst h2
        simp [insert, read_cons, Ne.symm h]
      · simp [insert, h1, h2, read_cons, ih]

/-- A read after a write to the same address gives the byte written. -/
@[simp] theorem read_write_same (m : Memory) (a : Nat) (v : Byte) : read (write m a v) a = v := by
  by_cases h : v = Config.unlistedByte
  · simp [write, h, read_erase_same]
  · simp [write, h, read_insert_same]

/-- A write leaves every other address alone. -/
theorem read_write_ne (m : Memory) {a b : Nat} (v : Byte) (h : b ≠ a) : read (write m a v) b = read m b := by
  unfold write
  split
  · exact read_erase_ne m h
  · exact read_insert_ne m v h

/-! ## The canonical form -/

theorem wfFrom_cons {lo k : Nat} {v : Byte} {m : Memory} :
    wfFrom lo ((k, v) :: m) = true ↔ (lo ≤ k ∧ k < 65536 ∧ v ≠ Config.unlistedByte) ∧ wfFrom (k + 1) m = true := by
  simp [wfFrom, and_assoc]

theorem wfFrom_mono {lo lo' : Nat} (h : lo' ≤ lo) : ∀ {m : Memory}, wfFrom lo m = true → wfFrom lo' m = true
  | [], _ => rfl
  | (_, _) :: _, hm => by
    rw [wfFrom_cons] at hm ⊢
    exact ⟨⟨le_trans h hm.1.1, hm.1.2⟩, hm.2⟩

theorem wfFrom_erase {lo : Nat} (a : Nat) : ∀ {m : Memory}, wfFrom lo m = true → wfFrom lo (erase m a) = true
  | [], _ => rfl
  | (k, v) :: m, hm => by
    rw [wfFrom_cons] at hm
    by_cases h : k = a
    · simpa [erase, h] using wfFrom_mono (by omega) (wfFrom_erase a hm.2)
    · simp only [erase, h, if_false, wfFrom_cons]
      exact ⟨hm.1, wfFrom_erase a hm.2⟩

theorem wfFrom_insert {a : Nat} {v : Byte} (ha : a < 65536) (hv : v ≠ Config.unlistedByte) :
    ∀ {lo : Nat} {m : Memory}, lo ≤ a → wfFrom lo m = true → wfFrom lo (insert m a v) = true
  | lo, [], hlo, _ => by simp [insert, wfFrom, hlo, ha, hv]
  | lo, (k, x) :: m, hlo, hm => by
    rw [wfFrom_cons] at hm
    by_cases h1 : a < k
    · simp only [insert, h1, if_true, wfFrom_cons]
      exact ⟨⟨hlo, ha, hv⟩, ⟨⟨by omega, hm.1.2⟩, hm.2⟩⟩
    · by_cases h2 : a = k
      · subst h2
        simp only [insert, h1, if_true, if_false, wfFrom_cons]
        exact ⟨⟨hlo, ha, hv⟩, hm.2⟩
      · simp only [insert, h1, h2, if_false, wfFrom_cons]
        exact ⟨hm.1, wfFrom_insert ha hv (by omega) hm.2⟩

/-- A write keeps the canonical form. -/
theorem wf_write {m : Memory} (addr : Word) (v : Byte) (h : m.wf = true) : (m.write addr.toNat v).wf = true := by
  unfold write wf at *
  split
  · exact wfFrom_erase _ h
  · exact wfFrom_insert addr.isLt ‹_› (Nat.zero_le _) h

/-- So does a list of writes. -/
theorem wf_writeAll : ∀ (l : List (Word × Byte)) {m : Memory}, m.wf = true → (m.writeAll l).wf = true
  | [], _, h => h
  | (a, v) :: l, _, h => wf_writeAll l (wf_write a v h)

theorem read_below {lo a : Nat} (h : a < lo) : ∀ {m : Memory}, wfFrom lo m = true → read m a = Config.unlistedByte
  | [], _ => rfl
  | (k, v) :: m, hm => by
    rw [wfFrom_cons] at hm
    rw [read_cons, if_neg (by omega)]
    exact read_below (by omega) hm.2

theorem ext_from : ∀ {m m' : Memory} {lo : Nat}, wfFrom lo m = true → wfFrom lo m' = true →
    (∀ a, read m a = read m' a) → m = m'
  | [], [], _, _, _, _ => rfl
  | [], (k, v) :: m', _, _, h', hr => by
    rw [wfFrom_cons] at h'
    exact absurd ((hr k).symm.trans rfl) (by simpa [read_cons] using h'.1.2.2)
  | (k, v) :: m, [], _, h, _, hr => by
    rw [wfFrom_cons] at h
    exact absurd (hr k) (by simpa [read_cons] using h.1.2.2)
  | (k, v) :: m, (k', v') :: m', lo, h, h', hr => by
    rw [wfFrom_cons] at h h'
    have hk : k = k' := by
      rcases Nat.lt_trichotomy k k' with hlt | heq | hgt
      · have := hr k
        rw [read_cons, if_pos rfl, read_cons, if_neg (by omega), read_below (lo := k' + 1) (by omega) h'.2] at this
        exact absurd this h.1.2.2
      · exact heq
      · have := hr k'
        rw [read_cons, if_neg (by omega), read_below (lo := k + 1) (by omega) h.2, read_cons, if_pos rfl] at this
        exact absurd this.symm h'.1.2.2
    subst hk
    have hv : v = v' := by simpa [read_cons] using hr k
    subst hv
    congr 1
    refine ext_from h.2 h'.2 fun a => ?_
    by_cases ha : k = a
    · subst ha
      rw [read_below (lo := k + 1) (by omega) h.2, read_below (lo := k + 1) (by omega) h'.2]
    · simpa [read_cons, ha] using hr a

/-- Canonical memories that read the same everywhere are the same data. -/
theorem ext_of_wf {m m' : Memory} (h : m.wf = true) (h' : m'.wf = true) (hr : ∀ a, read m a = read m' a) : m = m' :=
  ext_from h h' hr

end Sys2Proof.Machine.Memory
end

