-- ==== Sys2Proof/Laws/State.lean ====
section
/-! SUPPORT. One lemma per field for each record update of Machine/Ops.lean and Machine/Flags.lean: a byte read, a byte
written, an 8-bit register written, the flags written. -/

namespace Sys2Proof.Machine

@[simp] theorem memRead_a (s : State) (addr : Word) : (s.memRead addr).2.a = s.a := rfl
@[simp] theorem memRead_f (s : State) (addr : Word) : (s.memRead addr).2.f = s.f := rfl
@[simp] theorem memRead_b (s : State) (addr : Word) : (s.memRead addr).2.b = s.b := rfl
@[simp] theorem memRead_c (s : State) (addr : Word) : (s.memRead addr).2.c = s.c := rfl
@[simp] theorem memRead_d (s : State) (addr : Word) : (s.memRead addr).2.d = s.d := rfl
@[simp] theorem memRead_e (s : State) (addr : Word) : (s.memRead addr).2.e = s.e := rfl
@[simp] theorem memRead_h (s : State) (addr : Word) : (s.memRead addr).2.h = s.h := rfl
@[simp] theorem memRead_l (s : State) (addr : Word) : (s.memRead addr).2.l = s.l := rfl
@[simp] theorem memRead_sp (s : State) (addr : Word) : (s.memRead addr).2.sp = s.sp := rfl
@[simp] theorem memRead_pc (s : State) (addr : Word) : (s.memRead addr).2.pc = s.pc := rfl
@[simp] theorem memRead_ime (s : State) (addr : Word) : (s.memRead addr).2.ime = s.ime := rfl
@[simp] theorem memRead_imePending (s : State) (addr : Word) : (s.memRead addr).2.imePending = s.imePending := rfl
@[simp] theorem memRead_halted (s : State) (addr : Word) : (s.memRead addr).2.halted = s.halted := rfl
@[simp] theorem memRead_stopped (s : State) (addr : Word) : (s.memRead addr).2.stopped = s.stopped := rfl
@[simp] theorem memRead_haltBug (s : State) (addr : Word) : (s.memRead addr).2.haltBug = s.haltBug := rfl
@[simp] theorem memRead_locked (s : State) (addr : Word) : (s.memRead addr).2.locked = s.locked := rfl
@[simp] theorem memRead_stopLength (s : State) (addr : Word) : (s.memRead addr).2.stopLength = s.stopLength := rfl
@[simp] theorem memRead_mem (s : State) (addr : Word) : (s.memRead addr).2.mem = s.mem := rfl
@[simp] theorem memRead_inputs (s : State) (addr : Word) : (s.memRead addr).2.inputs = s.inputs := rfl
@[simp] theorem memRead_irq (s : State) (addr : Word) : (s.memRead addr).2.irq = s.irq := rfl
@[simp] theorem memRead_wake (s : State) (addr : Word) : (s.memRead addr).2.wake = s.wake := rfl
@[simp] theorem memRead_cycles (s : State) (addr : Word) : (s.memRead addr).2.cycles = s.cycles := rfl
@[simp] theorem memRead_ack (s : State) (addr : Word) : (s.memRead addr).2.ack = s.ack := rfl

@[simp] theorem memRead_value (s : State) (addr : Word) : (s.memRead addr).1 = s.answer 0 addr := rfl
@[simp] theorem memRead_answers (s : State) (addr : Word) :
    (s.memRead addr).2.answers = s.answers.drop 1 := rfl
@[simp] theorem memRead_bus (s : State) (addr : Word) :
    (s.memRead addr).2.bus = s.bus ++ [.read addr (s.answer 0 addr)] := rfl

@[simp] theorem memWrite_a (s : State) (addr : Word) (v : Byte) : (s.memWrite addr v).a = s.a := rfl
@[simp] theorem memWrite_f (s : State) (addr : Word) (v : Byte) : (s.memWrite addr v).f = s.f := rfl
@[simp] theorem memWrite_b (s : State) (addr : Word) (v : Byte) : (s.memWrite addr v).b = s.b := rfl
@[simp] theorem memWrite_c (s : State) (addr : Word) (v : Byte) : (s.memWrite addr v).c = s.c := rfl
@[simp] theorem memWrite_d (s : State) (addr : Word) (v : Byte) : (s.memWrite addr v).d = s.d := rfl
@[simp] theorem memWrite_e (s : State) (addr : Word) (v : Byte) : (s.memWrite addr v).e = s.e := rfl
@[simp] theorem memWrite_h (s : State) (addr : Word) (v : Byte) : (s.memWrite addr v).h = s.h := rfl
@[simp] theorem memWrite_l (s : State) (addr : Word) (v : Byte) : (s.memWrite addr v).l = s.l := rfl
@[simp] theorem memWrite_sp (s : State) (addr : Word) (v : Byte) : (s.memWrite addr v).sp = s.sp := rfl
@[simp] theorem memWrite_pc (s : State) (addr : Word) (v : Byte) : (s.memWrite addr v).pc = s.pc := rfl
@[simp] theorem memWrite_ime (s : State) (addr : Word) (v : Byte) : (s.memWrite addr v).ime = s.ime := rfl
@[simp] theorem memWrite_imePending (s : State) (addr : Word) (v : Byte) : (s.memWrite addr v).imePending = s.imePending := rfl
@[simp] theorem memWrite_halted (s : State) (addr : Word) (v : Byte) : (s.memWrite addr v).halted = s.halted := rfl
@[simp] theorem memWrite_stopped (s : State) (addr : Word) (v : Byte) : (s.memWrite addr v).stopped = s.stopped := rfl
@[simp] theorem memWrite_haltBug (s : State) (addr : Word) (v : Byte) : (s.memWrite addr v).haltBug = s.haltBug := rfl
@[simp] theorem memWrite_locked (s : State) (addr : Word) (v : Byte) : (s.memWrite addr v).locked = s.locked := rfl
@[simp] theorem memWrite_stopLength (s : State) (addr : Word) (v : Byte) : (s.memWrite addr v).stopLength = s.stopLength := rfl
@[simp] theorem memWrite_inputs (s : State) (addr : Word) (v : Byte) : (s.memWrite addr v).inputs = s.inputs := rfl
@[simp] theorem memWrite_irq (s : State) (addr : Word) (v : Byte) : (s.memWrite addr v).irq = s.irq := rfl
@[simp] theorem memWrite_wake (s : State) (addr : Word) (v : Byte) : (s.memWrite addr v).wake = s.wake := rfl
@[simp] theorem memWrite_answers (s : State) (addr : Word) (v : Byte) : (s.memWrite addr v).answers = s.answers := rfl
@[simp] theorem memWrite_cycles (s : State) (addr : Word) (v : Byte) : (s.memWrite addr v).cycles = s.cycles := rfl
@[simp] theorem memWrite_ack (s : State) (addr : Word) (v : Byte) : (s.memWrite addr v).ack = s.ack := rfl

@[simp] theorem memWrite_mem (s : State) (addr : Word) (v : Byte) :
    (s.memWrite addr v).mem = s.mem.write addr.toNat v := rfl
@[simp] theorem memWrite_bus (s : State) (addr : Word) (v : Byte) :
    (s.memWrite addr v).bus = s.bus ++ [.write addr v] := rfl

@[simp] theorem setFlags_a (s : State) (x : Flags) : (s.setFlags x).a = s.a := rfl
@[simp] theorem setFlags_b (s : State) (x : Flags) : (s.setFlags x).b = s.b := rfl
@[simp] theorem setFlags_c (s : State) (x : Flags) : (s.setFlags x).c = s.c := rfl
@[simp] theorem setFlags_d (s : State) (x : Flags) : (s.setFlags x).d = s.d := rfl
@[simp] theorem setFlags_e (s : State) (x : Flags) : (s.setFlags x).e = s.e := rfl
@[simp] theorem setFlags_h (s : State) (x : Flags) : (s.setFlags x).h = s.h := rfl
@[simp] theorem setFlags_l (s : State) (x : Flags) : (s.setFlags x).l = s.l := rfl
@[simp] theorem setFlags_sp (s : State) (x : Flags) : (s.setFlags x).sp = s.sp := rfl
@[simp] theorem setFlags_pc (s : State) (x : Flags) : (s.setFlags x).pc = s.pc := rfl
@[simp] theorem setFlags_ime (s : State) (x : Flags) : (s.setFlags x).ime = s.ime := rfl
@[simp] theorem setFlags_imePending (s : State) (x : Flags) : (s.setFlags x).imePending = s.imePending := rfl
@[simp] theorem setFlags_halted (s : State) (x : Flags) : (s.setFlags x).halted = s.halted := rfl
@[simp] theorem setFlags_stopped (s : State) (x : Flags) : (s.setFlags x).stopped = s.stopped := rfl
@[simp] theorem setFlags_haltBug (s : State) (x : Flags) : (s.setFlags x).haltBug = s.haltBug := rfl
@[simp] theorem setFlags_locked (s : State) (x : Flags) : (s.setFlags x).locked = s.locked := rfl
@[simp] theorem setFlags_stopLength (s : State) (x : Flags) : (s.setFlags x).stopLength = s.stopLength := rfl
@[simp] theorem setFlags_mem (s : State) (x : Flags) : (s.setFlags x).mem = s.mem := rfl
@[simp] theorem setFlags_inputs (s : State) (x : Flags) : (s.setFlags x).inputs = s.inputs := rfl
@[simp] theorem setFlags_irq (s : State) (x : Flags) : (s.setFlags x).irq = s.irq := rfl
@[simp] theorem setFlags_wake (s : State) (x : Flags) : (s.setFlags x).wake = s.wake := rfl
@[simp] theorem setFlags_answers (s : State) (x : Flags) : (s.setFlags x).answers = s.answers := rfl
@[simp] theorem setFlags_cycles (s : State) (x : Flags) : (s.setFlags x).cycles = s.cycles := rfl
@[simp] theorem setFlags_ack (s : State) (x : Flags) : (s.setFlags x).ack = s.ack := rfl
@[simp] theorem setFlags_bus (s : State) (x : Flags) : (s.setFlags x).bus = s.bus := rfl

@[simp] theorem setFlags_f (s : State) (x : Flags) : (s.setFlags x).f = x.toByte := rfl

@[simp] theorem set8_sp (s : State) (r : Reg8) (v : Byte) : (s.set8 r v).sp = s.sp := by cases r <;> rfl
@[simp] theorem set8_pc (s : State) (r : Reg8) (v : Byte) : (s.set8 r v).pc = s.pc := by cases r <;> rfl
@[simp] theorem set8_ime (s : State) (r : Reg8) (v : Byte) : (s.set8 r v).ime = s.ime := by cases r <;> rfl
@[simp] theorem set8_imePending (s : State) (r : Reg8) (v : Byte) : (s.set8 r v).imePending = s.imePending := by cases r <;> rfl
@[simp] theorem set8_halted (s : State) (r : Reg8) (v : Byte) : (s.set8 r v).halted = s.halted := by cases r <;> rfl
@[simp] theorem set8_stopped (s : State) (r : Reg8) (v : Byte) : (s.set8 r v).stopped = s.stopped := by cases r <;> rfl
@[simp] theorem set8_haltBug (s : State) (r : Reg8) (v : Byte) : (s.set8 r v).haltBug = s.haltBug := by cases r <;> rfl
@[simp] theorem set8_locked (s : State) (r : Reg8) (v : Byte) : (s.set8 r v).locked = s.locked := by cases r <;> rfl
@[simp] theorem set8_stopLength (s : State) (r : Reg8) (v : Byte) : (s.set8 r v).stopLength = s.stopLength := by cases r <;> rfl
@[simp] theorem set8_mem (s : State) (r : Reg8) (v : Byte) : (s.set8 r v).mem = s.mem := by cases r <;> rfl
@[simp] theorem set8_inputs (s : State) (r : Reg8) (v : Byte) : (s.set8 r v).inputs = s.inputs := by cases r <;> rfl
@[simp] theorem set8_irq (s : State) (r : Reg8) (v : Byte) : (s.set8 r v).irq = s.irq := by cases r <;> rfl
@[simp] theorem set8_wake (s : State) (r : Reg8) (v : Byte) : (s.set8 r v).wake = s.wake := by cases r <;> rfl
@[simp] theorem set8_answers (s : State) (r : Reg8) (v : Byte) : (s.set8 r v).answers = s.answers := by cases r <;> rfl
@[simp] theorem set8_cycles (s : State) (r : Reg8) (v : Byte) : (s.set8 r v).cycles = s.cycles := by cases r <;> rfl
@[simp] theorem set8_ack (s : State) (r : Reg8) (v : Byte) : (s.set8 r v).ack = s.ack := by cases r <;> rfl
@[simp] theorem set8_bus (s : State) (r : Reg8) (v : Byte) : (s.set8 r v).bus = s.bus := by cases r <;> rfl

end Sys2Proof.Machine
end

