-- ==== Sys2Proof/Laws/Ops.lean ====
section
/-! SUPPORT. One lemma for each shared operation that says what it does and what it leaves alone. -/

namespace Sys2Proof.Machine

/-! ## Memory -/

theorem toNat_ne {a b : Word} (h : b ≠ a) : b.toNat ≠ a.toNat := fun e => h (BitVec.eq_of_toNat_eq e)

/-- A byte read after a byte written. -/
theorem byteAt_memWrite (s : State) (a b : Word) (v : Byte) :
    (s.memWrite a v).byteAt b = if b = a then v else s.byteAt b := by
  by_cases h : b = a
  · simp [State.byteAt, h]
  · simp [State.byteAt, h, Memory.read_write_ne _ _ (toNat_ne h)]

/-- What depends on memory alone is unchanged where memory is. -/
theorem byteAt_of_mem_eq {s t : State} (h : t.mem = s.mem) (a : Word) : t.byteAt a = s.byteAt a := by
  simp [State.byteAt, h]

theorem memKept_of_mem_eq {s t : State} (h : t.mem = s.mem) : MemKept s t := fun a => byteAt_of_mem_eq h a

theorem memWrite_spec (s : State) (a : Word) (v : Byte) :
    (s.memWrite a v).byteAt a = v ∧ MemKeptOutside [a] s (s.memWrite a v) ∧ ControlKept s (s.memWrite a v) ∧
    RegsKept [] s (s.memWrite a v) ∧ FlagsKept [] s (s.memWrite a v) := by
  refine ⟨by simp [byteAt_memWrite], fun b hb => ?_, ⟨rfl, rfl, rfl, rfl, rfl, rfl, rfl, rfl, rfl, rfl, rfl⟩, fun r _ _ => ?_, fun _ _ => rfl⟩
  · simp [byteAt_memWrite, by simpa using hb]
  · cases r <;> rfl

/-! ## What the bus answers -/

/-- Where the bus answers a read itself, that is what the read gives, whatever memory holds: "any u8" (20_memory.md R52,
D11). -/
theorem memRead_of_answer {s : State} {v : Byte} {rest : List Byte} (h : s.answers = v :: rest) (addr : Word) :
    s.memRead addr = (v, { s with answers := rest, bus := s.bus ++ [.read addr v] }) := by
  simp [State.memRead, State.answer, h]

/-- Two reads of one address, one after the other, may differ: each takes its own answer (R58). -/
theorem memRead_twice {s : State} {v w : Byte} {rest : List Byte} (h : s.answers = v :: w :: rest) (addr : Word) :
    (s.memRead addr).1 = v ∧ ((s.memRead addr).2.memRead addr).1 = w := by
  simp [State.answer, h]

/-- Where the bus gives no answer of its own, a read gives what memory holds. -/
theorem memRead_of_silent {s : State} (h : s.answers = []) (addr : Word) :
    s.memRead addr = (s.byteAt addr, { s with bus := s.bus ++ [.read addr (s.byteAt addr)] }) := by
  cases s
  simp_all [State.memRead, State.answer, State.byteAt]

/-- The answer to a read that a read of another address comes before. -/
theorem answer_memRead (s : State) (k : Nat) (a b : Word) : (s.memRead a).2.answer k b = s.answer (k + 1) b := by
  simp [State.answer, State.byteAt]

theorem memWrite_wf (s : State) (a : Word) (v : Byte) (h : s.mem.wf = true) : (s.memWrite a v).mem.wf = true :=
  Memory.wf_write a v h

/-! ## The bus calls of a transition -/

/-- No call: neither the calls made nor the answers left change. -/
theorem calls_nil (s t : State) : Calls [] s t ↔ t.bus = s.bus ∧ t.answers = s.answers := by simp [Calls]

/-- The calls of one transition after another are those of the two together. -/
theorem Calls.append {k l : List BusEvent} {s t u : State} (h : Calls k s t) (h' : Calls l t u) :
    Calls (k ++ l) s u := by
  refine ⟨by rw [h'.1, h.1, List.append_assoc], ?_⟩
  rw [h'.2, h.2, List.drop_drop, List.countP_append]

theorem memRead_calls (s : State) (a : Word) : Calls [.read a (s.answer 0 a)] s (s.memRead a).2 := ⟨rfl, rfl⟩

theorem memWrite_calls (s : State) (a : Word) (v : Byte) : Calls [.write a v] s (s.memWrite a v) := ⟨rfl, rfl⟩

/-! ## Registers -/

/-- A register read after a register written. -/
theorem get8_set8 (s : State) (r q : Reg8) (v : Byte) :
    (s.set8 r v).get8 q = if q = r then (if r = .f then v &&& 0xF0 else v) else s.get8 q := by
  cases r <;> cases q <;> simp [State.set8, State.get8, BitVec.and_assoc]

theorem set8_spec (s : State) (r : Reg8) (v : Byte) :
    RegsKept [r] s (s.set8 r v) ∧ (r ≠ .f → (s.set8 r v).get8 r = v ∧ (s.set8 r v).f = s.f) ∧
    ControlKept s (s.set8 r v) := by
  refine ⟨fun q _ hq => ?_, fun hr => ⟨?_, ?_⟩, ?_⟩
  · simp only [List.mem_singleton] at hq
    simp [get8_set8, hq]
  · simp [get8_set8, hr]
  · cases r <;> first | rfl | exact absurd rfl hr
  · cases r <;> exact ⟨rfl, rfl, rfl, rfl, rfl, rfl, rfl, rfl, rfl, rfl, rfl⟩

/-- F's low nibble stays 0 whatever register is written (R23). -/
theorem set8_flagsLow (s : State) (r : Reg8) (v : Byte) (h : s.f &&& 0x0F = 0) : (s.set8 r v).f &&& 0x0F = 0 := by
  cases r <;> first | exact h | simp [State.set8, BitVec.and_assoc]

/-- A pair reads what was written to it; AF reads it with F's low nibble 0 (R22). -/
theorem get16_set16 (s : State) (p : RegPair) (v : Word) :
    (s.set16 p v).get16 p = if p = .af then v &&& 0xFFF0 else v := by
  cases p
  · have h : ofBytes (hiByte v) (loByte v &&& 0xF0) = v &&& 0xFFF0 := by
      ext i hi
      interval_cases i <;> simp [hiByte, loByte, ofBytes, hi]
    simpa [State.set16, State.get16, get8_set8, RegPair.high, RegPair.low] using h
  all_goals simp [State.set16, State.get16, get8_set8, RegPair.high, RegPair.low]

theorem set16_spec (s : State) (p : RegPair) (v : Word) :
    RegsKept [p.high, p.low] s (s.set16 p v) ∧ (p ≠ .af → (s.set16 p v).f = s.f) ∧ ControlKept s (s.set16 p v) ∧
    (s.set16 p v).sp = s.sp ∧ (s.set16 p v).pc = s.pc ∧ (s.set16 p v).mem = s.mem ∧ (s.set16 p v).bus = s.bus := by
  refine ⟨fun q hf hq => ?_, fun hp => ?_, ?_, ?_, ?_, ?_, ?_⟩
  · simp only [List.mem_cons, List.not_mem_nil, or_false, not_or] at hq
    simp [State.set16, get8_set8, hq.1, hq.2]
  · cases p <;> first | rfl | exact absurd rfl hp
  · cases p <;> exact ⟨rfl, rfl, rfl, rfl, rfl, rfl, rfl, rfl, rfl, rfl, rfl⟩
  all_goals cases p <;> rfl

theorem set16_flagsLow (s : State) (p : RegPair) (v : Word) (h : s.f &&& 0x0F = 0) :
    (s.set16 p v).f &&& 0x0F = 0 := set8_flagsLow _ _ _ (set8_flagsLow _ _ _ h)

theorem setFlags_spec (s : State) (x : Flags) :
    RegsKept [] s (s.setFlags x) ∧ ControlKept s (s.setFlags x) ∧ (s.setFlags x).f &&& 0x0F = 0 := by
  refine ⟨fun r hf _ => ?_, ⟨rfl, rfl, rfl, rfl, rfl, rfl, rfl, rfl, rfl, rfl, rfl⟩, Flags.toByte_low x⟩
  cases r <;> first | rfl | exact absurd rfl hf

/-! ## Operands -/

/-- Reading an r8 operand gives its value; only the bus calls made and the answers left change. -/
theorem readR8_spec (s : State) (r : R8) :
    s.readR8 r = (s.r8Value r, { s with
      answers := s.answers.drop ((s.r8Reads r).countP (·.isRead)), bus := s.bus ++ s.r8Reads r }) := by
  cases r <;> simp [State.readR8, State.r8Value, State.r8Reads, regOf, State.memRead, BusEvent.isRead]

theorem readSrc_spec (s : State) (x : AluSrc) :
    s.readSrc x = (s.srcValue x, { s with
      answers := s.answers.drop ((s.srcReads x).countP (·.isRead)), bus := s.bus ++ s.srcReads x }) := by
  cases x with
  | r8 r => exact readR8_spec s r
  | n8 v => simp [State.readSrc, State.srcValue, State.srcReads]

/-- Writing an r8 operand: its value, and what is left alone. -/
theorem writeR8_spec (s : State) (r : R8) (v : Byte) :
    (s.writeR8 r v).r8Holds r = v ∧ RegsKept (r8Regs r) s (s.writeR8 r v) ∧
    MemKeptOutside (s.r8Stored r) s (s.writeR8 r v) ∧ ControlKept s (s.writeR8 r v) ∧ (s.writeR8 r v).f = s.f ∧
    (s.writeR8 r v).sp = s.sp ∧ (s.writeR8 r v).pc = s.pc ∧ Calls (s.r8Writes r v) s (s.writeR8 r v) := by
  by_cases hm : r = .mhl
  · subst hm
    have h := memWrite_spec s (s.get16 .hl) v
    exact ⟨h.1, h.2.2.2.1, h.2.1, h.2.2.1, rfl, rfl, rfl, rfl, rfl⟩
  · obtain ⟨x, hr, hx⟩ : ∃ x, regOf r = some x ∧ x ≠ .f := by cases r <;> simp_all [regOf]
    have h := set8_spec s x v
    have e : s.writeR8 r v = s.set8 x v := by simp [State.writeR8, hr]
    refine ⟨?_, ?_, ?_, e ▸ h.2.2, e ▸ (h.2.1 hx).2, ?_, ?_, ?_⟩
    · simp [e, State.r8Holds, hr, (h.2.1 hx).1]
    · simpa [r8Regs, hr, e] using h.1
    · exact fun a _ => byteAt_of_mem_eq (by simp [e]) a
    · simp [e]
    · simp [e]
    · simp [Calls, e, State.r8Writes, hr]

theorem writeR8_wf (s : State) (r : R8) (v : Byte) (h : s.mem.wf = true) : (s.writeR8 r v).mem.wf = true := by
  cases r <;> first | exact h | exact memWrite_wf s _ v h

/-! ## The stack -/

/-- Push16 (48_stack.md R270). -/
theorem push16_spec (s : State) (v : Word) :
    (s.push16 v).sp = s.sp - 2 ∧ (s.push16 v).byteAt (s.sp - 1) = hiByte v ∧ (s.push16 v).byteAt (s.sp - 2) = loByte v ∧
    MemKeptOutside [s.sp - 1, s.sp - 2] s (s.push16 v) ∧ RegsKept [] s (s.push16 v) ∧ (s.push16 v).f = s.f ∧
    (s.push16 v).pc = s.pc ∧ ControlKept s (s.push16 v) ∧
    Calls [.write (s.sp - 1) (hiByte v), .write (s.sp - 2) (loByte v)] s (s.push16 v) := by
  have e2 : s.sp - 1 - 1 = s.sp - 2 := by bv_omega
  have ne : s.sp - 1 ≠ s.sp - 2 := by bv_omega
  have byte : ∀ a, (s.push16 v).byteAt a =
      if a = s.sp - 2 then loByte v else if a = s.sp - 1 then hiByte v else s.byteAt a := fun a => by
    rw [← e2]
    exact (byteAt_memWrite _ _ _ _).trans (by congr 1; exact byteAt_memWrite _ _ _ _)
  refine ⟨e2, ?_, ?_, fun a ha => ?_, fun r _ _ => ?_, rfl, rfl, ⟨rfl, rfl, rfl, rfl, rfl, rfl, rfl, rfl, rfl, rfl, rfl⟩, ?_⟩
  · rw [byte, if_neg ne, if_pos rfl]
  · rw [byte, if_pos rfl]
  · simp only [List.mem_cons, List.not_mem_nil, or_false, not_or] at ha
    rw [byte, if_neg ha.2, if_neg ha.1]
  · cases r <;> rfl
  · refine ⟨?_, rfl⟩
    simp only [State.push16, memWrite_bus, memWrite_sp, e2, List.append_assoc]
    rfl

theorem push16_wf (s : State) (v : Word) (h : s.mem.wf = true) : (s.push16 v).mem.wf = true :=
  Memory.wf_write _ _ (Memory.wf_write _ _ h)

/-- Pop16 (R270): the word the bus answers, low byte first, and nothing changed but SP, the bus calls made and the answers
left. -/
theorem pop16_spec (s : State) :
    s.pop16 = (ofBytes (s.answer 1 (s.sp + 1)) (s.answer 0 s.sp),
      { s with sp := s.sp + 2, answers := s.answers.drop 2,
               bus := s.bus ++ [.read s.sp (s.answer 0 s.sp), .read (s.sp + 1) (s.answer 1 (s.sp + 1))] }) := by
  have e2 : s.sp + 1 + 1 = s.sp + 2 := by bv_omega
  have e1 : (s.answers.drop 1).drop 1 = s.answers.drop 2 := List.drop_drop
  simp only [State.pop16, State.memRead, e2, e1, List.append_assoc]
  rfl

/-! ## Interrupts and errors -/

/-- Interrupt entry (60_exceptions.md R303). -/
theorem interruptEntry_spec (s : State) (n : Interrupt) :
    s.interruptEntry n =
      { ({ s with ime := false, imePending := false, haltBug := false }).push16 (if s.haltBug then s.pc - 1 else s.pc) with
        pc := n.vector, ack := some n, cycles := 20 } := rfl

/-- The lowest set bit (R304). -/
theorem lowestRequest_spec (irq : BitVec 5) (n : Interrupt) :
    lowestRequest irq = some n ↔ irq.getLsbD n.number = true ∧ ∀ k < n.number, irq.getLsbD k = false := by
  revert irq
  cases n <;> decide

theorem lowestRequest_none (irq : BitVec 5) : lowestRequest irq = none ↔ irq = 0 := by
  revert irq
  decide

/-! ## Fetching -/

theorem fetchImm8_spec (s : State) :
    s.fetchImm8 = (s.answer 0 s.pc, { s with
      pc := s.pc + 1, answers := s.answers.drop 1, bus := s.bus ++ [.read s.pc (s.answer 0 s.pc)] }) := rfl

theorem fetchOpcode_spec (s : State) :
    s.fetchOpcode = (s.answer 0 s.pc, { s with
      pc := s.operandPc, haltBug := false, answers := s.answers.drop 1,
      bus := s.bus ++ [.read s.pc (s.answer 0 s.pc)] }) := by
  cases hb : s.haltBug <;> simp [State.fetchOpcode, State.memRead, State.operandPc, hb]

/-- The bytes after the opcode that the decoder looks at: those read, and 0 for those not read. -/
def State.operand1 (s : State) (n : Nat) : Byte := if 1 ≤ n then s.answer 1 s.operandPc else 0

def State.operand2 (s : State) (n : Nat) : Byte := if 2 ≤ n then s.answer 2 (s.operandPc + 1) else 0

theorem operandBytes_le : ∀ op : Byte, operandBytes op ≤ 2 := by decide

/-- Fetching gives the instruction of the bytes the bus answers and the state it runs in (R300 steps 6 and 8). -/
theorem fetch_spec (s : State) :
    s.fetch =
      (decodeInstr (s.answer 0 s.pc) (s.operand1 (operandBytes (s.answer 0 s.pc)))
        (s.operand2 (operandBytes (s.answer 0 s.pc))),
       s.fetched (operandBytes (s.answer 0 s.pc))) := by
  have e2 : s.operandPc + 1 + 1 = s.operandPc + 2 := by bv_omega
  have e0 : s.operandPc + 0 = s.operandPc := by bv_omega
  have d2 : (s.answers.drop 1).drop 1 = s.answers.drop 2 := List.drop_drop
  have d3 : (s.answers.drop 2).drop 1 = s.answers.drop 3 := List.drop_drop
  have hle := operandBytes_le (s.answer 0 s.pc)
  simp only [State.fetch, fetchOpcode_spec]
  generalize operandBytes (s.answer 0 s.pc) = n at hle
  interval_cases n
  · simp only [State.fetchOperands, State.fetched]
    exact congrArg₂ _ rfl (by congr 1; exact e0.symm)
  · simp only [State.fetchOperands, State.fetched, fetchImm8_spec, List.append_assoc, d2]
    rfl
  · simp only [State.fetchOperands, State.fetched, fetchImm8_spec, List.append_assoc, e2, d2, d3, State.answer,
      List.drop_zero]
    rfl

end Sys2Proof.Machine
end

