-- ==== Sys2Proof/Laws/PerInstr.lean ====
section
/-! SUPPORT. The family RoundTrip: decoding the bytes of an instruction gives it back, with the bytes after it left over;
one lemma per constructor of Instr. -/

namespace Sys2Proof.Laws

/-- An opcode byte that is the whole instruction. -/
theorem decode_none {op : Byte} {i : Instr} (h0 : operandBytes op = 0) (hs : op ≠ 0x10)
    (hd : ∀ b1 b2, decodeInstr op b1 b2 = i) (sl : StopLength) (rest : List Byte) :
    decode sl ([op] ++ rest) = .ok (i, rest) := by
  simp [decode, h0, hd]
  exact fun h => absurd h hs

/-- An opcode byte with one byte after it. -/
theorem decode_one {op v : Byte} {i : Instr} (h1 : operandBytes op = 1) (hs : op ≠ 0x10)
    (hd : ∀ b2, decodeInstr op v b2 = i) (sl : StopLength) (rest : List Byte) :
    decode sl ([op, v] ++ rest) = .ok (i, rest) := by
  simp [decode, h1, hd]
  exact fun h => absurd h hs

/-- An opcode byte with a 16-bit immediate, low byte first (30_encoding.md R84). -/
theorem decode_two {op : Byte} {n : Word} {i : Instr} (h2 : operandBytes op = 2) (hs : op ≠ 0x10)
    (hd : ∀ b1 b2, ofBytes b2 b1 = n → decodeInstr op b1 b2 = i) (sl : StopLength) (rest : List Byte) :
    decode sl ([op, loByte n, hiByte n] ++ rest) = .ok (i, rest) := by
  simp [decode, h2, hd _ _ (ofBytes_hi_lo n)]
  exact fun h => absurd h hs

namespace RoundTrip

/-- Decoding what the encoder gives, followed by any bytes, gives the instruction and leaves those bytes; for the prefix
marker, which is none, where no byte follows. -/
def Statement (i : Instr) : Prop :=
  ∀ (sl : StopLength) (rest : List Byte), (i.isPrefix = true → rest = []) →
    decode sl (encode sl i ++ rest) = .ok (i, rest)

theorem nop : Statement .nop := fun sl rest _ => decode_none rfl (by decide) (fun _ _ => rfl) sl rest
theorem ld_bc_n16 (n16 : Word) : Statement (.ld_bc_n16 n16) :=
  fun sl rest _ => decode_two rfl (by decide) (fun _ _ h => congrArg _ h) sl rest
theorem ld_mbc_a : Statement .ld_mbc_a := fun sl rest _ => decode_none rfl (by decide) (fun _ _ => rfl) sl rest
theorem inc_bc : Statement .inc_bc := fun sl rest _ => decode_none rfl (by decide) (fun _ _ => rfl) sl rest
theorem inc_b : Statement .inc_b := fun sl rest _ => decode_none rfl (by decide) (fun _ _ => rfl) sl rest
theorem dec_b : Statement .dec_b := fun sl rest _ => decode_none rfl (by decide) (fun _ _ => rfl) sl rest
theorem ld_b_n8 (n8 : Byte) : Statement (.ld_b_n8 n8) :=
  fun sl rest _ => decode_one rfl (by decide) (fun _ => rfl) sl rest
theorem rlca : Statement .rlca := fun sl rest _ => decode_none rfl (by decide) (fun _ _ => rfl) sl rest
theorem ld_ma16_sp (a16 : Word) : Statement (.ld_ma16_sp a16) :=
  fun sl rest _ => decode_two rfl (by decide) (fun _ _ h => congrArg _ h) sl rest
theorem add_hl_bc : Statement .add_hl_bc := fun sl rest _ => decode_none rfl (by decide) (fun _ _ => rfl) sl rest
theorem ld_a_mbc : Statement .ld_a_mbc := fun sl rest _ => decode_none rfl (by decide) (fun _ _ => rfl) sl rest
theorem dec_bc : Statement .dec_bc := fun sl rest _ => decode_none rfl (by decide) (fun _ _ => rfl) sl rest
theorem inc_c : Statement .inc_c := fun sl rest _ => decode_none rfl (by decide) (fun _ _ => rfl) sl rest
theorem dec_c : Statement .dec_c := fun sl rest _ => decode_none rfl (by decide) (fun _ _ => rfl) sl rest
theorem ld_c_n8 (n8 : Byte) : Statement (.ld_c_n8 n8) :=
  fun sl rest _ => decode_one rfl (by decide) (fun _ => rfl) sl rest
theorem rrca : Statement .rrca := fun sl rest _ => decode_none rfl (by decide) (fun _ _ => rfl) sl rest
theorem stop : Statement .stop := fun sl rest _ => by cases sl <;> rfl
theorem ld_de_n16 (n16 : Word) : Statement (.ld_de_n16 n16) :=
  fun sl rest _ => decode_two rfl (by decide) (fun _ _ h => congrArg _ h) sl rest
theorem ld_mde_a : Statement .ld_mde_a := fun sl rest _ => decode_none rfl (by decide) (fun _ _ => rfl) sl rest
theorem inc_de : Statement .inc_de := fun sl rest _ => decode_none rfl (by decide) (fun _ _ => rfl) sl rest
theorem inc_d : Statement .inc_d := fun sl rest _ => decode_none rfl (by decide) (fun _ _ => rfl) sl rest
theorem dec_d : Statement .dec_d := fun sl rest _ => decode_none rfl (by decide) (fun _ _ => rfl) sl rest
theorem ld_d_n8 (n8 : Byte) : Statement (.ld_d_n8 n8) :=
  fun sl rest _ => decode_one rfl (by decide) (fun _ => rfl) sl rest
theorem rla : Statement .rla := fun sl rest _ => decode_none rfl (by decide) (fun _ _ => rfl) sl rest
theorem jr_e8 (e8 : Byte) : Statement (.jr_e8 e8) :=
  fun sl rest _ => decode_one rfl (by decide) (fun _ => rfl) sl rest
theorem add_hl_de : Statement .add_hl_de := fun sl rest _ => decode_none rfl (by decide) (fun _ _ => rfl) sl rest
theorem ld_a_mde : Statement .ld_a_mde := fun sl rest _ => decode_none rfl (by decide) (fun _ _ => rfl) sl rest
theorem dec_de : Statement .dec_de := fun sl rest _ => decode_none rfl (by decide) (fun _ _ => rfl) sl rest
theorem inc_e : Statement .inc_e := fun sl rest _ => decode_none rfl (by decide) (fun _ _ => rfl) sl rest
theorem dec_e : Statement .dec_e := fun sl rest _ => decode_none rfl (by decide) (fun _ _ => rfl) sl rest
theorem ld_e_n8 (n8 : Byte) : Statement (.ld_e_n8 n8) :=
  fun sl rest _ => decode_one rfl (by decide) (fun _ => rfl) sl rest
theorem rra : Statement .rra := fun sl rest _ => decode_none rfl (by decide) (fun _ _ => rfl) sl rest
theorem jr_nz_e8 (e8 : Byte) : Statement (.jr_nz_e8 e8) :=
  fun sl rest _ => decode_one rfl (by decide) (fun _ => rfl) sl rest
theorem ld_hl_n16 (n16 : Word) : Statement (.ld_hl_n16 n16) :=
  fun sl rest _ => decode_two rfl (by decide) (fun _ _ h => congrArg _ h) sl rest
theorem ld_mhli_a : Statement .ld_mhli_a := fun sl rest _ => decode_none rfl (by decide) (fun _ _ => rfl) sl rest
theorem inc_hl : Statement .inc_hl := fun sl rest _ => decode_none rfl (by decide) (fun _ _ => rfl) sl rest
theorem inc_h : Statement .inc_h := fun sl rest _ => decode_none rfl (by decide) (fun _ _ => rfl) sl rest
theorem dec_h : Statement .dec_h := fun sl rest _ => decode_none rfl (by decide) (fun _ _ => rfl) sl rest
theorem ld_h_n8 (n8 : Byte) : Statement (.ld_h_n8 n8) :=
  fun sl rest _ => decode_one rfl (by decide) (fun _ => rfl) sl rest
theorem daa : Statement .daa := fun sl rest _ => decode_none rfl (by decide) (fun _ _ => rfl) sl rest
theorem jr_z_e8 (e8 : Byte) : Statement (.jr_z_e8 e8) :=
  fun sl rest _ => decode_one rfl (by decide) (fun _ => rfl) sl rest
theorem add_hl_hl : Statement .add_hl_hl := fun sl rest _ => decode_none rfl (by decide) (fun _ _ => rfl) sl rest
theorem ld_a_mhli : Statement .ld_a_mhli := fun sl rest _ => decode_none rfl (by decide) (fun _ _ => rfl) sl rest
theorem dec_hl : Statement .dec_hl := fun sl rest _ => decode_none rfl (by decide) (fun _ _ => rfl) sl rest
theorem inc_l : Statement .inc_l := fun sl rest _ => decode_none rfl (by decide) (fun _ _ => rfl) sl rest
theorem dec_l : Statement .dec_l := fun sl rest _ => decode_none rfl (by decide) (fun _ _ => rfl) sl rest
theorem ld_l_n8 (n8 : Byte) : Statement (.ld_l_n8 n8) :=
  fun sl rest _ => decode_one rfl (by decide) (fun _ => rfl) sl rest
theorem cpl : Statement .cpl := fun sl rest _ => decode_none rfl (by decide) (fun _ _ => rfl) sl rest
theorem jr_nc_e8 (e8 : Byte) : Statement (.jr_nc_e8 e8) :=
  fun sl rest _ => decode_one rfl (by decide) (fun _ => rfl) sl rest
theorem ld_sp_n16 (n16 : Word) : Statement (.ld_sp_n16 n16) :=
  fun sl rest _ => decode_two rfl (by decide) (fun _ _ h => congrArg _ h) sl rest
theorem ld_mhld_a : Statement .ld_mhld_a := fun sl rest _ => decode_none rfl (by decide) (fun _ _ => rfl) sl rest
theorem inc_sp : Statement .inc_sp := fun sl rest _ => decode_none rfl (by decide) (fun _ _ => rfl) sl rest
theorem inc_mhl : Statement .inc_mhl := fun sl rest _ => decode_none rfl (by decide) (fun _ _ => rfl) sl rest
theorem dec_mhl : Statement .dec_mhl := fun sl rest _ => decode_none rfl (by decide) (fun _ _ => rfl) sl rest
theorem ld_mhl_n8 (n8 : Byte) : Statement (.ld_mhl_n8 n8) :=
  fun sl rest _ => decode_one rfl (by decide) (fun _ => rfl) sl rest
theorem scf : Statement .scf := fun sl rest _ => decode_none rfl (by decide) (fun _ _ => rfl) sl rest
theorem jr_c_e8 (e8 : Byte) : Statement (.jr_c_e8 e8) :=
  fun sl rest _ => decode_one rfl (by decide) (fun _ => rfl) sl rest
theorem add_hl_sp : Statement .add_hl_sp := fun sl rest _ => decode_none rfl (by decide) (fun _ _ => rfl) sl rest
theorem ld_a_mhld : Statement .ld_a_mhld := fun sl rest _ => decode_none rfl (by decide) (fun _ _ => rfl) sl rest
theorem dec_sp : Statement .dec_sp := fun sl rest _ => decode_none rfl (by decide) (fun _ _ => rfl) sl rest
theorem inc_a : Statement .inc_a := fun sl rest _ => decode_none rfl (by decide) (fun _ _ => rfl) sl rest
theorem dec_a : Statement .dec_a := fun sl rest _ => decode_none rfl (by decide) (fun _ _ => rfl) sl rest
theorem ld_a_n8 (n8 : Byte) : Statement (.ld_a_n8 n8) :=
  fun sl rest _ => decode_one rfl (by decide) (fun _ => rfl) sl rest
theorem ccf : Statement .ccf := fun sl rest _ => decode_none rfl (by decide) (fun _ _ => rfl) sl rest
theorem ld_b_b : Statement .ld_b_b := fun sl rest _ => decode_none rfl (by decide) (fun _ _ => rfl) sl rest
theorem ld_b_c : Statement .ld_b_c := fun sl rest _ => decode_none rfl (by decide) (fun _ _ => rfl) sl rest
theorem ld_b_d : Statement .ld_b_d := fun sl rest _ => decode_none rfl (by decide) (fun _ _ => rfl) sl rest
theorem ld_b_e : Statement .ld_b_e := fun sl rest _ => decode_none rfl (by decide) (fun _ _ => rfl) sl rest
theorem ld_b_h : Statement .ld_b_h := fun sl rest _ => decode_none rfl (by decide) (fun _ _ => rfl) sl rest
theorem ld_b_l : Statement .ld_b_l := fun sl rest _ => decode_none rfl (by decide) (fun _ _ => rfl) sl rest
theorem ld_b_mhl : Statement .ld_b_mhl := fun sl rest _ => decode_none rfl (by decide) (fun _ _ => rfl) sl rest
theorem ld_b_a : Statement .ld_b_a := fun sl rest _ => decode_none rfl (by decide) (fun _ _ => rfl) sl rest
theorem ld_c_b : Statement .ld_c_b := fun sl rest _ => decode_none rfl (by decide) (fun _ _ => rfl) sl rest
theorem ld_c_c : Statement .ld_c_c := fun sl rest _ => decode_none rfl (by decide) (fun _ _ => rfl) sl rest
theorem ld_c_d : Statement .ld_c_d := fun sl rest _ => decode_none rfl (by decide) (fun _ _ => rfl) sl rest
theorem ld_c_e : Statement .ld_c_e := fun sl rest _ => decode_none rfl (by decide) (fun _ _ => rfl) sl rest
theorem ld_c_h : Statement .ld_c_h := fun sl rest _ => decode_none rfl (by decide) (fun _ _ => rfl) sl rest
theorem ld_c_l : Statement .ld_c_l := fun sl rest _ => decode_none rfl (by decide) (fun _ _ => rfl) sl rest
theorem ld_c_mhl : Statement .ld_c_mhl := fun sl rest _ => decode_none rfl (by decide) (fun _ _ => rfl) sl rest
theorem ld_c_a : Statement .ld_c_a := fun sl rest _ => decode_none rfl (by decide) (fun _ _ => rfl) sl rest
theorem ld_d_b : Statement .ld_d_b := fun sl rest _ => decode_none rfl (by decide) (fun _ _ => rfl) sl rest
theorem ld_d_c : Statement .ld_d_c := fun sl rest _ => decode_none rfl (by decide) (fun _ _ => rfl) sl rest
theorem ld_d_d : Statement .ld_d_d := fun sl rest _ => decode_none rfl (by decide) (fun _ _ => rfl) sl rest
theorem ld_d_e : Statement .ld_d_e := fun sl rest _ => decode_none rfl (by decide) (fun _ _ => rfl) sl rest
theorem ld_d_h : Statement .ld_d_h := fun sl rest _ => decode_none rfl (by decide) (fun _ _ => rfl) sl rest
theorem ld_d_l : Statement .ld_d_l := fun sl rest _ => decode_none rfl (by decide) (fun _ _ => rfl) sl rest
theorem ld_d_mhl : Statement .ld_d_mhl := fun sl rest _ => decode_none rfl (by decide) (fun _ _ => rfl) sl rest
theorem ld_d_a : Statement .ld_d_a := fun sl rest _ => decode_none rfl (by decide) (fun _ _ => rfl) sl rest
theorem ld_e_b : Statement .ld_e_b := fun sl rest _ => decode_none rfl (by decide) (fun _ _ => rfl) sl rest
theorem ld_e_c : Statement .ld_e_c := fun sl rest _ => decode_none rfl (by decide) (fun _ _ => rfl) sl rest
theorem ld_e_d : Statement .ld_e_d := fun sl rest _ => decode_none rfl (by decide) (fun _ _ => rfl) sl rest
theorem ld_e_e : Statement .ld_e_e := fun sl rest _ => decode_none rfl (by decide) (fun _ _ => rfl) sl rest
theorem ld_e_h : Statement .ld_e_h := fun sl rest _ => decode_none rfl (by decide) (fun _ _ => rfl) sl rest
theorem ld_e_l : Statement .ld_e_l := fun sl rest _ => decode_none rfl (by decide) (fun _ _ => rfl) sl rest
theorem ld_e_mhl : Statement .ld_e_mhl := fun sl rest _ => decode_none rfl (by decide) (fun _ _ => rfl) sl rest
theorem ld_e_a : Statement .ld_e_a := fun sl rest _ => decode_none rfl (by decide) (fun _ _ => rfl) sl rest
theorem ld_h_b : Statement .ld_h_b := fun sl rest _ => decode_none rfl (by decide) (fun _ _ => rfl) sl rest
theorem ld_h_c : Statement .ld_h_c := fun sl rest _ => decode_none rfl (by decide) (fun _ _ => rfl) sl rest
theorem ld_h_d : Statement .ld_h_d := fun sl rest _ => decode_none rfl (by decide) (fun _ _ => rfl) sl rest
theorem ld_h_e : Statement .ld_h_e := fun sl rest _ => decode_none rfl (by decide) (fun _ _ => rfl) sl rest
theorem ld_h_h : Statement .ld_h_h := fun sl rest _ => decode_none rfl (by decide) (fun _ _ => rfl) sl rest
theorem ld_h_l : Statement .ld_h_l := fun sl rest _ => decode_none rfl (by decide) (fun _ _ => rfl) sl rest
theorem ld_h_mhl : Statement .ld_h_mhl := fun sl rest _ => decode_none rfl (by decide) (fun _ _ => rfl) sl rest
theorem ld_h_a : Statement .ld_h_a := fun sl rest _ => decode_none rfl (by decide) (fun _ _ => rfl) sl rest
theorem ld_l_b : Statement .ld_l_b := fun sl rest _ => decode_none rfl (by decide) (fun _ _ => rfl) sl rest
theorem ld_l_c : Statement .ld_l_c := fun sl rest _ => decode_none rfl (by decide) (fun _ _ => rfl) sl rest
theorem ld_l_d : Statement .ld_l_d := fun sl rest _ => decode_none rfl (by decide) (fun _ _ => rfl) sl rest
theorem ld_l_e : Statement .ld_l_e := fun sl rest _ => decode_none rfl (by decide) (fun _ _ => rfl) sl rest
theorem ld_l_h : Statement .ld_l_h := fun sl rest _ => decode_none rfl (by decide) (fun _ _ => rfl) sl rest
theorem ld_l_l : Statement .ld_l_l := fun sl rest _ => decode_none rfl (by decide) (fun _ _ => rfl) sl rest
theorem ld_l_mhl : Statement .ld_l_mhl := fun sl rest _ => decode_none rfl (by decide) (fun _ _ => rfl) sl rest
theorem ld_l_a : Statement .ld_l_a := fun sl rest _ => decode_none rfl (by decide) (fun _ _ => rfl) sl rest
theorem ld_mhl_b : Statement .ld_mhl_b := fun sl rest _ => decode_none rfl (by decide) (fun _ _ => rfl) sl rest
theorem ld_mhl_c : Statement .ld_mhl_c := fun sl rest _ => decode_none rfl (by decide) (fun _ _ => rfl) sl rest
theorem ld_mhl_d : Statement .ld_mhl_d := fun sl rest _ => decode_none rfl (by decide) (fun _ _ => rfl) sl rest
theorem ld_mhl_e : Statement .ld_mhl_e := fun sl rest _ => decode_none rfl (by decide) (fun _ _ => rfl) sl rest
theorem ld_mhl_h : Statement .ld_mhl_h := fun sl rest _ => decode_none rfl (by decide) (fun _ _ => rfl) sl rest
theorem ld_mhl_l : Statement .ld_mhl_l := fun sl rest _ => decode_none rfl (by decide) (fun _ _ => rfl) sl rest
theorem halt : Statement .halt := fun sl rest _ => decode_none rfl (by decide) (fun _ _ => rfl) sl rest
theorem ld_mhl_a : Statement .ld_mhl_a := fun sl rest _ => decode_none rfl (by decide) (fun _ _ => rfl) sl rest
theorem ld_a_b : Statement .ld_a_b := fun sl rest _ => decode_none rfl (by decide) (fun _ _ => rfl) sl rest
theorem ld_a_c : Statement .ld_a_c := fun sl rest _ => decode_none rfl (by decide) (fun _ _ => rfl) sl rest
theorem ld_a_d : Statement .ld_a_d := fun sl rest _ => decode_none rfl (by decide) (fun _ _ => rfl) sl rest
theorem ld_a_e : Statement .ld_a_e := fun sl rest _ => decode_none rfl (by decide) (fun _ _ => rfl) sl rest
theorem ld_a_h : Statement .ld_a_h := fun sl rest _ => decode_none rfl (by decide) (fun _ _ => rfl) sl rest
theorem ld_a_l : Statement .ld_a_l := fun sl rest _ => decode_none rfl (by decide) (fun _ _ => rfl) sl rest
theorem ld_a_mhl : Statement .ld_a_mhl := fun sl rest _ => decode_none rfl (by decide) (fun _ _ => rfl) sl rest
theorem ld_a_a : Statement .ld_a_a := fun sl rest _ => decode_none rfl (by decide) (fun _ _ => rfl) sl rest
theorem add_a_b : Statement .add_a_b := fun sl rest _ => decode_none rfl (by decide) (fun _ _ => rfl) sl rest
theorem add_a_c : Statement .add_a_c := fun sl rest _ => decode_none rfl (by decide) (fun _ _ => rfl) sl rest
theorem add_a_d : Statement .add_a_d := fun sl rest _ => decode_none rfl (by decide) (fun _ _ => rfl) sl rest
theorem add_a_e : Statement .add_a_e := fun sl rest _ => decode_none rfl (by decide) (fun _ _ => rfl) sl rest
theorem add_a_h : Statement .add_a_h := fun sl rest _ => decode_none rfl (by decide) (fun _ _ => rfl) sl rest
theorem add_a_l : Statement .add_a_l := fun sl rest _ => decode_none rfl (by decide) (fun _ _ => rfl) sl rest
theorem add_a_mhl : Statement .add_a_mhl := fun sl rest _ => decode_none rfl (by decide) (fun _ _ => rfl) sl rest
theorem add_a_a : Statement .add_a_a := fun sl rest _ => decode_none rfl (by decide) (fun _ _ => rfl) sl rest
theorem adc_a_b : Statement .adc_a_b := fun sl rest _ => decode_none rfl (by decide) (fun _ _ => rfl) sl rest
theorem adc_a_c : Statement .adc_a_c := fun sl rest _ => decode_none rfl (by decide) (fun _ _ => rfl) sl rest
theorem adc_a_d : Statement .adc_a_d := fun sl rest _ => decode_none rfl (by decide) (fun _ _ => rfl) sl rest
theorem adc_a_e : Statement .adc_a_e := fun sl rest _ => decode_none rfl (by decide) (fun _ _ => rfl) sl rest
theorem adc_a_h : Statement .adc_a_h := fun sl rest _ => decode_none rfl (by decide) (fun _ _ => rfl) sl rest
theorem adc_a_l : Statement .adc_a_l := fun sl rest _ => decode_none rfl (by decide) (fun _ _ => rfl) sl rest
theorem adc_a_mhl : Statement .adc_a_mhl := fun sl rest _ => decode_none rfl (by decide) (fun _ _ => rfl) sl rest
theorem adc_a_a : Statement .adc_a_a := fun sl rest _ => decode_none rfl (by decide) (fun _ _ => rfl) sl rest
theorem sub_b : Statement .sub_b := fun sl rest _ => decode_none rfl (by decide) (fun _ _ => rfl) sl rest
theorem sub_c : Statement .sub_c := fun sl rest _ => decode_none rfl (by decide) (fun _ _ => rfl) sl rest
theorem sub_d : Statement .sub_d := fun sl rest _ => decode_none rfl (by decide) (fun _ _ => rfl) sl rest
theorem sub_e : Statement .sub_e := fun sl rest _ => decode_none rfl (by decide) (fun _ _ => rfl) sl rest
theorem sub_h : Statement .sub_h := fun sl rest _ => decode_none rfl (by decide) (fun _ _ => rfl) sl rest
theorem sub_l : Statement .sub_l := fun sl rest _ => decode_none rfl (by decide) (fun _ _ => rfl) sl rest
theorem sub_mhl : Statement .sub_mhl := fun sl rest _ => decode_none rfl (by decide) (fun _ _ => rfl) sl rest
theorem sub_a : Statement .sub_a := fun sl rest _ => decode_none rfl (by decide) (fun _ _ => rfl) sl rest
theorem sbc_a_b : Statement .sbc_a_b := fun sl rest _ => decode_none rfl (by decide) (fun _ _ => rfl) sl rest
theorem sbc_a_c : Statement .sbc_a_c := fun sl rest _ => decode_none rfl (by decide) (fun _ _ => rfl) sl rest
theorem sbc_a_d : Statement .sbc_a_d := fun sl rest _ => decode_none rfl (by decide) (fun _ _ => rfl) sl rest
theorem sbc_a_e : Statement .sbc_a_e := fun sl rest _ => decode_none rfl (by decide) (fun _ _ => rfl) sl rest
theorem sbc_a_h : Statement .sbc_a_h := fun sl rest _ => decode_none rfl (by decide) (fun _ _ => rfl) sl rest
theorem sbc_a_l : Statement .sbc_a_l := fun sl rest _ => decode_none rfl (by decide) (fun _ _ => rfl) sl rest
theorem sbc_a_mhl : Statement .sbc_a_mhl := fun sl rest _ => decode_none rfl (by decide) (fun _ _ => rfl) sl rest
theorem sbc_a_a : Statement .sbc_a_a := fun sl rest _ => decode_none rfl (by decide) (fun _ _ => rfl) sl rest
theorem and_b : Statement .and_b := fun sl rest _ => decode_none rfl (by decide) (fun _ _ => rfl) sl rest
theorem and_c : Statement .and_c := fun sl rest _ => decode_none rfl (by decide) (fun _ _ => rfl) sl rest
theorem and_d : Statement .and_d := fun sl rest _ => decode_none rfl (by decide) (fun _ _ => rfl) sl rest
theorem and_e : Statement .and_e := fun sl rest _ => decode_none rfl (by decide) (fun _ _ => rfl) sl rest
theorem and_h : Statement .and_h := fun sl rest _ => decode_none rfl (by decide) (fun _ _ => rfl) sl rest
theorem and_l : Statement .and_l := fun sl rest _ => decode_none rfl (by decide) (fun _ _ => rfl) sl rest
theorem and_mhl : Statement .and_mhl := fun sl rest _ => decode_none rfl (by decide) (fun _ _ => rfl) sl rest
theorem and_a : Statement .and_a := fun sl rest _ => decode_none rfl (by decide) (fun _ _ => rfl) sl rest
theorem xor_b : Statement .xor_b := fun sl rest _ => decode_none rfl (by decide) (fun _ _ => rfl) sl rest
theorem xor_c : Statement .xor_c := fun sl rest _ => decode_none rfl (by decide) (fun _ _ => rfl) sl rest
theorem xor_d : Statement .xor_d := fun sl rest _ => decode_none rfl (by decide) (fun _ _ => rfl) sl rest
theorem xor_e : Statement .xor_e := fun sl rest _ => decode_none rfl (by decide) (fun _ _ => rfl) sl rest
theorem xor_h : Statement .xor_h := fun sl rest _ => decode_none rfl (by decide) (fun _ _ => rfl) sl rest
theorem xor_l : Statement .xor_l := fun sl rest _ => decode_none rfl (by decide) (fun _ _ => rfl) sl rest
theorem xor_mhl : Statement .xor_mhl := fun sl rest _ => decode_none rfl (by decide) (fun _ _ => rfl) sl rest
theorem xor_a : Statement .xor_a := fun sl rest _ => decode_none rfl (by decide) (fun _ _ => rfl) sl rest
theorem or_b : Statement .or_b := fun sl rest _ => decode_none rfl (by decide) (fun _ _ => rfl) sl rest
theorem or_c : Statement .or_c := fun sl rest _ => decode_none rfl (by decide) (fun _ _ => rfl) sl rest
theorem or_d : Statement .or_d := fun sl rest _ => decode_none rfl (by decide) (fun _ _ => rfl) sl rest
theorem or_e : Statement .or_e := fun sl rest _ => decode_none rfl (by decide) (fun _ _ => rfl) sl rest
theorem or_h : Statement .or_h := fun sl rest _ => decode_none rfl (by decide) (fun _ _ => rfl) sl rest
theorem or_l : Statement .or_l := fun sl rest _ => decode_none rfl (by decide) (fun _ _ => rfl) sl rest
theorem or_mhl : Statement .or_mhl := fun sl rest _ => decode_none rfl (by decide) (fun _ _ => rfl) sl rest
theorem or_a : Statement .or_a := fun sl rest _ => decode_none rfl (by decide) (fun _ _ => rfl) sl rest
theorem cp_b : Statement .cp_b := fun sl rest _ => decode_none rfl (by decide) (fun _ _ => rfl) sl rest
theorem cp_c : Statement .cp_c := fun sl rest _ => decode_none rfl (by decide) (fun _ _ => rfl) sl rest
theorem cp_d : Statement .cp_d := fun sl rest _ => decode_none rfl (by decide) (fun _ _ => rfl) sl rest
theorem cp_e : Statement .cp_e := fun sl rest _ => decode_none rfl (by decide) (fun _ _ => rfl) sl rest
theorem cp_h : Statement .cp_h := fun sl rest _ => decode_none rfl (by decide) (fun _ _ => rfl) sl rest
theorem cp_l : Statement .cp_l := fun sl rest _ => decode_none rfl (by decide) (fun _ _ => rfl) sl rest
theorem cp_mhl : Statement .cp_mhl := fun sl rest _ => decode_none rfl (by decide) (fun _ _ => rfl) sl rest
theorem cp_a : Statement .cp_a := fun sl rest _ => decode_none rfl (by decide) (fun _ _ => rfl) sl rest
theorem ret_nz : Statement .ret_nz := fun sl rest _ => decode_none rfl (by decide) (fun _ _ => rfl) sl rest
theorem pop_bc : Statement .pop_bc := fun sl rest _ => decode_none rfl (by decide) (fun _ _ => rfl) sl rest
theorem jp_nz_a16 (a16 : Word) : Statement (.jp_nz_a16 a16) :=
  fun sl rest _ => decode_two rfl (by decide) (fun _ _ h => congrArg _ h) sl rest
theorem jp_a16 (a16 : Word) : Statement (.jp_a16 a16) :=
  fun sl rest _ => decode_two rfl (by decide) (fun _ _ h => congrArg _ h) sl rest
theorem call_nz_a16 (a16 : Word) : Statement (.call_nz_a16 a16) :=
  fun sl rest _ => decode_two rfl (by decide) (fun _ _ h => congrArg _ h) sl rest
theorem push_bc : Statement .push_bc := fun sl rest _ => decode_none rfl (by decide) (fun _ _ => rfl) sl rest
theorem add_a_n8 (n8 : Byte) : Statement (.add_a_n8 n8) :=
  fun sl rest _ => decode_one rfl (by decide) (fun _ => rfl) sl rest
theorem rst_00 : Statement .rst_00 := fun sl rest _ => decode_none rfl (by decide) (fun _ _ => rfl) sl rest
theorem ret_z : Statement .ret_z := fun sl rest _ => decode_none rfl (by decide) (fun _ _ => rfl) sl rest
theorem ret : Statement .ret := fun sl rest _ => decode_none rfl (by decide) (fun _ _ => rfl) sl rest
theorem jp_z_a16 (a16 : Word) : Statement (.jp_z_a16 a16) :=
  fun sl rest _ => decode_two rfl (by decide) (fun _ _ h => congrArg _ h) sl rest
theorem prefix_cb : Statement .prefix_cb := fun sl rest h => by rw [h rfl]; rfl
theorem call_z_a16 (a16 : Word) : Statement (.call_z_a16 a16) :=
  fun sl rest _ => decode_two rfl (by decide) (fun _ _ h => congrArg _ h) sl rest
theorem call_a16 (a16 : Word) : Statement (.call_a16 a16) :=
  fun sl rest _ => decode_two rfl (by decide) (fun _ _ h => congrArg _ h) sl rest
theorem adc_a_n8 (n8 : Byte) : Statement (.adc_a_n8 n8) :=
  fun sl rest _ => decode_one rfl (by decide) (fun _ => rfl) sl rest
theorem rst_08 : Statement .rst_08 := fun sl rest _ => decode_none rfl (by decide) (fun _ _ => rfl) sl rest
theorem ret_nc : Statement .ret_nc := fun sl rest _ => decode_none rfl (by decide) (fun _ _ => rfl) sl rest
theorem pop_de : Statement .pop_de := fun sl rest _ => decode_none rfl (by decide) (fun _ _ => rfl) sl rest
theorem jp_nc_a16 (a16 : Word) : Statement (.jp_nc_a16 a16) :=
  fun sl rest _ => decode_two rfl (by decide) (fun _ _ h => congrArg _ h) sl rest
theorem undefined_d3 : Statement .undefined_d3 := fun sl rest _ => decode_none rfl (by decide) (fun _ _ => rfl) sl rest
theorem call_nc_a16 (a16 : Word) : Statement (.call_nc_a16 a16) :=
  fun sl rest _ => decode_two rfl (by decide) (fun _ _ h => congrArg _ h) sl rest
theorem push_de : Statement .push_de := fun sl rest _ => decode_none rfl (by decide) (fun _ _ => rfl) sl rest
theorem sub_n8 (n8 : Byte) : Statement (.sub_n8 n8) :=
  fun sl rest _ => decode_one rfl (by decide) (fun _ => rfl) sl rest
theorem rst_10 : Statement .rst_10 := fun sl rest _ => decode_none rfl (by decide) (fun _ _ => rfl) sl rest
theorem ret_c : Statement .ret_c := fun sl rest _ => decode_none rfl (by decide) (fun _ _ => rfl) sl rest
theorem reti : Statement .reti := fun sl rest _ => decode_none rfl (by decide) (fun _ _ => rfl) sl rest
theorem jp_c_a16 (a16 : Word) : Statement (.jp_c_a16 a16) :=
  fun sl rest _ => decode_two rfl (by decide) (fun _ _ h => congrArg _ h) sl rest
theorem undefined_db : Statement .undefined_db := fun sl rest _ => decode_none rfl (by decide) (fun _ _ => rfl) sl rest
theorem call_c_a16 (a16 : Word) : Statement (.call_c_a16 a16) :=
  fun sl rest _ => decode_two rfl (by decide) (fun _ _ h => congrArg _ h) sl rest
theorem undefined_dd : Statement .undefined_dd := fun sl rest _ => decode_none rfl (by decide) (fun _ _ => rfl) sl rest
theorem sbc_a_n8 (n8 : Byte) : Statement (.sbc_a_n8 n8) :=
  fun sl rest _ => decode_one rfl (by decide) (fun _ => rfl) sl rest
theorem rst_18 : Statement .rst_18 := fun sl rest _ => decode_none rfl (by decide) (fun _ _ => rfl) sl rest
theorem ldh_ma8_a (a8 : Byte) : Statement (.ldh_ma8_a a8) :=
  fun sl rest _ => decode_one rfl (by decide) (fun _ => rfl) sl rest
theorem pop_hl : Statement .pop_hl := fun sl rest _ => decode_none rfl (by decide) (fun _ _ => rfl) sl rest
theorem ld_mc_a : Statement .ld_mc_a := fun sl rest _ => decode_none rfl (by decide) (fun _ _ => rfl) sl rest
theorem undefined_e3 : Statement .undefined_e3 := fun sl rest _ => decode_none rfl (by decide) (fun _ _ => rfl) sl rest
theorem undefined_e4 : Statement .undefined_e4 := fun sl rest _ => decode_none rfl (by decide) (fun _ _ => rfl) sl rest
theorem push_hl : Statement .push_hl := fun sl rest _ => decode_none rfl (by decide) (fun _ _ => rfl) sl rest
theorem and_n8 (n8 : Byte) : Statement (.and_n8 n8) :=
  fun sl rest _ => decode_one rfl (by decide) (fun _ => rfl) sl rest
theorem rst_20 : Statement .rst_20 := fun sl rest _ => decode_none rfl (by decide) (fun _ _ => rfl) sl rest
theorem add_sp_e8 (e8 : Byte) : Statement (.add_sp_e8 e8) :=
  fun sl rest _ => decode_one rfl (by decide) (fun _ => rfl) sl rest
theorem jp_hl : Statement .jp_hl := fun sl rest _ => decode_none rfl (by decide) (fun _ _ => rfl) sl rest
theorem ld_ma16_a (a16 : Word) : Statement (.ld_ma16_a a16) :=
  fun sl rest _ => decode_two rfl (by decide) (fun _ _ h => congrArg _ h) sl rest
theorem undefined_eb : Statement .undefined_eb := fun sl rest _ => decode_none rfl (by decide) (fun _ _ => rfl) sl rest
theorem undefined_ec : Statement .undefined_ec := fun sl rest _ => decode_none rfl (by decide) (fun _ _ => rfl) sl rest
theorem undefined_ed : Statement .undefined_ed := fun sl rest _ => decode_none rfl (by decide) (fun _ _ => rfl) sl rest
theorem xor_n8 (n8 : Byte) : Statement (.xor_n8 n8) :=
  fun sl rest _ => decode_one rfl (by decide) (fun _ => rfl) sl rest
theorem rst_28 : Statement .rst_28 := fun sl rest _ => decode_none rfl (by decide) (fun _ _ => rfl) sl rest
theorem ldh_a_ma8 (a8 : Byte) : Statement (.ldh_a_ma8 a8) :=
  fun sl rest _ => decode_one rfl (by decide) (fun _ => rfl) sl rest
theorem pop_af : Statement .pop_af := fun sl rest _ => decode_none rfl (by decide) (fun _ _ => rfl) sl rest
theorem ld_a_mc : Statement .ld_a_mc := fun sl rest _ => decode_none rfl (by decide) (fun _ _ => rfl) sl rest
theorem di : Statement .di := fun sl rest _ => decode_none rfl (by decide) (fun _ _ => rfl) sl rest
theorem undefined_f4 : Statement .undefined_f4 := fun sl rest _ => decode_none rfl (by decide) (fun _ _ => rfl) sl rest
theorem push_af : Statement .push_af := fun sl rest _ => decode_none rfl (by decide) (fun _ _ => rfl) sl rest
theorem or_n8 (n8 : Byte) : Statement (.or_n8 n8) :=
  fun sl rest _ => decode_one rfl (by decide) (fun _ => rfl) sl rest
theorem rst_30 : Statement .rst_30 := fun sl rest _ => decode_none rfl (by decide) (fun _ _ => rfl) sl rest
theorem ld_hl_sp_e8 (e8 : Byte) : Statement (.ld_hl_sp_e8 e8) :=
  fun sl rest _ => decode_one rfl (by decide) (fun _ => rfl) sl rest
theorem ld_sp_hl : Statement .ld_sp_hl := fun sl rest _ => decode_none rfl (by decide) (fun _ _ => rfl) sl rest
theorem ld_a_ma16 (a16 : Word) : Statement (.ld_a_ma16 a16) :=
  fun sl rest _ => decode_two rfl (by decide) (fun _ _ h => congrArg _ h) sl rest
theorem ei : Statement .ei := fun sl rest _ => decode_none rfl (by decide) (fun _ _ => rfl) sl rest
theorem undefined_fc : Statement .undefined_fc := fun sl rest _ => decode_none rfl (by decide) (fun _ _ => rfl) sl rest
theorem undefined_fd : Statement .undefined_fd := fun sl rest _ => decode_none rfl (by decide) (fun _ _ => rfl) sl rest
theorem cp_n8 (n8 : Byte) : Statement (.cp_n8 n8) :=
  fun sl rest _ => decode_one rfl (by decide) (fun _ => rfl) sl rest
theorem rst_38 : Statement .rst_38 := fun sl rest _ => decode_none rfl (by decide) (fun _ _ => rfl) sl rest
theorem rlc_b : Statement .rlc_b := fun sl rest _ => decode_one rfl (by decide) (fun _ => rfl) sl rest
theorem rlc_c : Statement .rlc_c := fun sl rest _ => decode_one rfl (by decide) (fun _ => rfl) sl rest
theorem rlc_d : Statement .rlc_d := fun sl rest _ => decode_one rfl (by decide) (fun _ => rfl) sl rest
theorem rlc_e : Statement .rlc_e := fun sl rest _ => decode_one rfl (by decide) (fun _ => rfl) sl rest
theorem rlc_h : Statement .rlc_h := fun sl rest _ => decode_one rfl (by decide) (fun _ => rfl) sl rest
theorem rlc_l : Statement .rlc_l := fun sl rest _ => decode_one rfl (by decide) (fun _ => rfl) sl rest
theorem rlc_mhl : Statement .rlc_mhl := fun sl rest _ => decode_one rfl (by decide) (fun _ => rfl) sl rest
theorem rlc_a : Statement .rlc_a := fun sl rest _ => decode_one rfl (by decide) (fun _ => rfl) sl rest
theorem rrc_b : Statement .rrc_b := fun sl rest _ => decode_one rfl (by decide) (fun _ => rfl) sl rest
theorem rrc_c : Statement .rrc_c := fun sl rest _ => decode_one rfl (by decide) (fun _ => rfl) sl rest
theorem rrc_d : Statement .rrc_d := fun sl rest _ => decode_one rfl (by decide) (fun _ => rfl) sl rest
theorem rrc_e : Statement .rrc_e := fun sl rest _ => decode_one rfl (by decide) (fun _ => rfl) sl rest
theorem rrc_h : Statement .rrc_h := fun sl rest _ => decode_one rfl (by decide) (fun _ => rfl) sl rest
theorem rrc_l : Statement .rrc_l := fun sl rest _ => decode_one rfl (by decide) (fun _ => rfl) sl rest
theorem rrc_mhl : Statement .rrc_mhl := fun sl rest _ => decode_one rfl (by decide) (fun _ => rfl) sl rest
theorem rrc_a : Statement .rrc_a := fun sl rest _ => decode_one rfl (by decide) (fun _ => rfl) sl rest
theorem rl_b : Statement .rl_b := fun sl rest _ => decode_one rfl (by decide) (fun _ => rfl) sl rest
theorem rl_c : Statement .rl_c := fun sl rest _ => decode_one rfl (by decide) (fun _ => rfl) sl rest
theorem rl_d : Statement .rl_d := fun sl rest _ => decode_one rfl (by decide) (fun _ => rfl) sl rest
theorem rl_e : Statement .rl_e := fun sl rest _ => decode_one rfl (by decide) (fun _ => rfl) sl rest
theorem rl_h : Statement .rl_h := fun sl rest _ => decode_one rfl (by decide) (fun _ => rfl) sl rest
theorem rl_l : Statement .rl_l := fun sl rest _ => decode_one rfl (by decide) (fun _ => rfl) sl rest
theorem rl_mhl : Statement .rl_mhl := fun sl rest _ => decode_one rfl (by decide) (fun _ => rfl) sl rest
theorem rl_a : Statement .rl_a := fun sl rest _ => decode_one rfl (by decide) (fun _ => rfl) sl rest
theorem rr_b : Statement .rr_b := fun sl rest _ => decode_one rfl (by decide) (fun _ => rfl) sl rest
theorem rr_c : Statement .rr_c := fun sl rest _ => decode_one rfl (by decide) (fun _ => rfl) sl rest
theorem rr_d : Statement .rr_d := fun sl rest _ => decode_one rfl (by decide) (fun _ => rfl) sl rest
theorem rr_e : Statement .rr_e := fun sl rest _ => decode_one rfl (by decide) (fun _ => rfl) sl rest
theorem rr_h : Statement .rr_h := fun sl rest _ => decode_one rfl (by decide) (fun _ => rfl) sl rest
theorem rr_l : Statement .rr_l := fun sl rest _ => decode_one rfl (by decide) (fun _ => rfl) sl rest
theorem rr_mhl : Statement .rr_mhl := fun sl rest _ => decode_one rfl (by decide) (fun _ => rfl) sl rest
theorem rr_a : Statement .rr_a := fun sl rest _ => decode_one rfl (by decide) (fun _ => rfl) sl rest
theorem sla_b : Statement .sla_b := fun sl rest _ => decode_one rfl (by decide) (fun _ => rfl) sl rest
theorem sla_c : Statement .sla_c := fun sl rest _ => decode_one rfl (by decide) (fun _ => rfl) sl rest
theorem sla_d : Statement .sla_d := fun sl rest _ => decode_one rfl (by decide) (fun _ => rfl) sl rest
theorem sla_e : Statement .sla_e := fun sl rest _ => decode_one rfl (by decide) (fun _ => rfl) sl rest
theorem sla_h : Statement .sla_h := fun sl rest _ => decode_one rfl (by decide) (fun _ => rfl) sl rest
theorem sla_l : Statement .sla_l := fun sl rest _ => decode_one rfl (by decide) (fun _ => rfl) sl rest
theorem sla_mhl : Statement .sla_mhl := fun sl rest _ => decode_one rfl (by decide) (fun _ => rfl) sl rest
theorem sla_a : Statement .sla_a := fun sl rest _ => decode_one rfl (by decide) (fun _ => rfl) sl rest
theorem sra_b : Statement .sra_b := fun sl rest _ => decode_one rfl (by decide) (fun _ => rfl) sl rest
theorem sra_c : Statement .sra_c := fun sl rest _ => decode_one rfl (by decide) (fun _ => rfl) sl rest
theorem sra_d : Statement .sra_d := fun sl rest _ => decode_one rfl (by decide) (fun _ => rfl) sl rest
theorem sra_e : Statement .sra_e := fun sl rest _ => decode_one rfl (by decide) (fun _ => rfl) sl rest
theorem sra_h : Statement .sra_h := fun sl rest _ => decode_one rfl (by decide) (fun _ => rfl) sl rest
theorem sra_l : Statement .sra_l := fun sl rest _ => decode_one rfl (by decide) (fun _ => rfl) sl rest
theorem sra_mhl : Statement .sra_mhl := fun sl rest _ => decode_one rfl (by decide) (fun _ => rfl) sl rest
theorem sra_a : Statement .sra_a := fun sl rest _ => decode_one rfl (by decide) (fun _ => rfl) sl rest
theorem swap_b : Statement .swap_b := fun sl rest _ => decode_one rfl (by decide) (fun _ => rfl) sl rest
theorem swap_c : Statement .swap_c := fun sl rest _ => decode_one rfl (by decide) (fun _ => rfl) sl rest
theorem swap_d : Statement .swap_d := fun sl rest _ => decode_one rfl (by decide) (fun _ => rfl) sl rest
theorem swap_e : Statement .swap_e := fun sl rest _ => decode_one rfl (by decide) (fun _ => rfl) sl rest
theorem swap_h : Statement .swap_h := fun sl rest _ => decode_one rfl (by decide) (fun _ => rfl) sl rest
theorem swap_l : Statement .swap_l := fun sl rest _ => decode_one rfl (by decide) (fun _ => rfl) sl rest
theorem swap_mhl : Statement .swap_mhl := fun sl rest _ => decode_one rfl (by decide) (fun _ => rfl) sl rest
theorem swap_a : Statement .swap_a := fun sl rest _ => decode_one rfl (by decide) (fun _ => rfl) sl rest
theorem srl_b : Statement .srl_b := fun sl rest _ => decode_one rfl (by decide) (fun _ => rfl) sl rest
theorem srl_c : Statement .srl_c := fun sl rest _ => decode_one rfl (by decide) (fun _ => rfl) sl rest
theorem srl_d : Statement .srl_d := fun sl rest _ => decode_one rfl (by decide) (fun _ => rfl) sl rest
theorem srl_e : Statement .srl_e := fun sl rest _ => decode_one rfl (by decide) (fun _ => rfl) sl rest
theorem srl_h : Statement .srl_h := fun sl rest _ => decode_one rfl (by decide) (fun _ => rfl) sl rest
theorem srl_l : Statement .srl_l := fun sl rest _ => decode_one rfl (by decide) (fun _ => rfl) sl rest
theorem srl_mhl : Statement .srl_mhl := fun sl rest _ => decode_one rfl (by decide) (fun _ => rfl) sl rest
theorem srl_a : Statement .srl_a := fun sl rest _ => decode_one rfl (by decide) (fun _ => rfl) sl rest
theorem bit_0_b : Statement .bit_0_b := fun sl rest _ => decode_one rfl (by decide) (fun _ => rfl) sl rest
theorem bit_0_c : Statement .bit_0_c := fun sl rest _ => decode_one rfl (by decide) (fun _ => rfl) sl rest
theorem bit_0_d : Statement .bit_0_d := fun sl rest _ => decode_one rfl (by decide) (fun _ => rfl) sl rest
theorem bit_0_e : Statement .bit_0_e := fun sl rest _ => decode_one rfl (by decide) (fun _ => rfl) sl rest
theorem bit_0_h : Statement .bit_0_h := fun sl rest _ => decode_one rfl (by decide) (fun _ => rfl) sl rest
theorem bit_0_l : Statement .bit_0_l := fun sl rest _ => decode_one rfl (by decide) (fun _ => rfl) sl rest
theorem bit_0_mhl : Statement .bit_0_mhl := fun sl rest _ => decode_one rfl (by decide) (fun _ => rfl) sl rest
theorem bit_0_a : Statement .bit_0_a := fun sl rest _ => decode_one rfl (by decide) (fun _ => rfl) sl rest
theorem bit_1_b : Statement .bit_1_b := fun sl rest _ => decode_one rfl (by decide) (fun _ => rfl) sl rest
theorem bit_1_c : Statement .bit_1_c := fun sl rest _ => decode_one rfl (by decide) (fun _ => rfl) sl rest
theorem bit_1_d : Statement .bit_1_d := fun sl rest _ => decode_one rfl (by decide) (fun _ => rfl) sl rest
theorem bit_1_e : Statement .bit_1_e := fun sl rest _ => decode_one rfl (by decide) (fun _ => rfl) sl rest
theorem bit_1_h : Statement .bit_1_h := fun sl rest _ => decode_one rfl (by decide) (fun _ => rfl) sl rest
theorem bit_1_l : Statement .bit_1_l := fun sl rest _ => decode_one rfl (by decide) (fun _ => rfl) sl rest
theorem bit_1_mhl : Statement .bit_1_mhl := fun sl rest _ => decode_one rfl (by decide) (fun _ => rfl) sl rest
theorem bit_1_a : Statement .bit_1_a := fun sl rest _ => decode_one rfl (by decide) (fun _ => rfl) sl rest
theorem bit_2_b : Statement .bit_2_b := fun sl rest _ => decode_one rfl (by decide) (fun _ => rfl) sl rest
theorem bit_2_c : Statement .bit_2_c := fun sl rest _ => decode_one rfl (by decide) (fun _ => rfl) sl rest
theorem bit_2_d : Statement .bit_2_d := fun sl rest _ => decode_one rfl (by decide) (fun _ => rfl) sl rest
theorem bit_2_e : Statement .bit_2_e := fun sl rest _ => decode_one rfl (by decide) (fun _ => rfl) sl rest
theorem bit_2_h : Statement .bit_2_h := fun sl rest _ => decode_one rfl (by decide) (fun _ => rfl) sl rest
theorem bit_2_l : Statement .bit_2_l := fun sl rest _ => decode_one rfl (by decide) (fun _ => rfl) sl rest
theorem bit_2_mhl : Statement .bit_2_mhl := fun sl rest _ => decode_one rfl (by decide) (fun _ => rfl) sl rest
theorem bit_2_a : Statement .bit_2_a := fun sl rest _ => decode_one rfl (by decide) (fun _ => rfl) sl rest
theorem bit_3_b : Statement .bit_3_b := fun sl rest _ => decode_one rfl (by decide) (fun _ => rfl) sl rest
theorem bit_3_c : Statement .bit_3_c := fun sl rest _ => decode_one rfl (by decide) (fun _ => rfl) sl rest
theorem bit_3_d : Statement .bit_3_d := fun sl rest _ => decode_one rfl (by decide) (fun _ => rfl) sl rest
theorem bit_3_e : Statement .bit_3_e := fun sl rest _ => decode_one rfl (by decide) (fun _ => rfl) sl rest
theorem bit_3_h : Statement .bit_3_h := fun sl rest _ => decode_one rfl (by decide) (fun _ => rfl) sl rest
theorem bit_3_l : Statement .bit_3_l := fun sl rest _ => decode_one rfl (by decide) (fun _ => rfl) sl rest
theorem bit_3_mhl : Statement .bit_3_mhl := fun sl rest _ => decode_one rfl (by decide) (fun _ => rfl) sl rest
theorem bit_3_a : Statement .bit_3_a := fun sl rest _ => decode_one rfl (by decide) (fun _ => rfl) sl rest
theorem bit_4_b : Statement .bit_4_b := fun sl rest _ => decode_one rfl (by decide) (fun _ => rfl) sl rest
theorem bit_4_c : Statement .bit_4_c := fun sl rest _ => decode_one rfl (by decide) (fun _ => rfl) sl rest
theorem bit_4_d : Statement .bit_4_d := fun sl rest _ => decode_one rfl (by decide) (fun _ => rfl) sl rest
theorem bit_4_e : Statement .bit_4_e := fun sl rest _ => decode_one rfl (by decide) (fun _ => rfl) sl rest
theorem bit_4_h : Statement .bit_4_h := fun sl rest _ => decode_one rfl (by decide) (fun _ => rfl) sl rest
theorem bit_4_l : Statement .bit_4_l := fun sl rest _ => decode_one rfl (by decide) (fun _ => rfl) sl rest
theorem bit_4_mhl : Statement .bit_4_mhl := fun sl rest _ => decode_one rfl (by decide) (fun _ => rfl) sl rest
theorem bit_4_a : Statement .bit_4_a := fun sl rest _ => decode_one rfl (by decide) (fun _ => rfl) sl rest
theorem bit_5_b : Statement .bit_5_b := fun sl rest _ => decode_one rfl (by decide) (fun _ => rfl) sl rest
theorem bit_5_c : Statement .bit_5_c := fun sl rest _ => decode_one rfl (by decide) (fun _ => rfl) sl rest
theorem bit_5_d : Statement .bit_5_d := fun sl rest _ => decode_one rfl (by decide) (fun _ => rfl) sl rest
theorem bit_5_e : Statement .bit_5_e := fun sl rest _ => decode_one rfl (by decide) (fun _ => rfl) sl rest
theorem bit_5_h : Statement .bit_5_h := fun sl rest _ => decode_one rfl (by decide) (fun _ => rfl) sl rest
theorem bit_5_l : Statement .bit_5_l := fun sl rest _ => decode_one rfl (by decide) (fun _ => rfl) sl rest
theorem bit_5_mhl : Statement .bit_5_mhl := fun sl rest _ => decode_one rfl (by decide) (fun _ => rfl) sl rest
theorem bit_5_a : Statement .bit_5_a := fun sl rest _ => decode_one rfl (by decide) (fun _ => rfl) sl rest
theorem bit_6_b : Statement .bit_6_b := fun sl rest _ => decode_one rfl (by decide) (fun _ => rfl) sl rest
theorem bit_6_c : Statement .bit_6_c := fun sl rest _ => decode_one rfl (by decide) (fun _ => rfl) sl rest
theorem bit_6_d : Statement .bit_6_d := fun sl rest _ => decode_one rfl (by decide) (fun _ => rfl) sl rest
theorem bit_6_e : Statement .bit_6_e := fun sl rest _ => decode_one rfl (by decide) (fun _ => rfl) sl rest
theorem bit_6_h : Statement .bit_6_h := fun sl rest _ => decode_one rfl (by decide) (fun _ => rfl) sl rest
theorem bit_6_l : Statement .bit_6_l := fun sl rest _ => decode_one rfl (by decide) (fun _ => rfl) sl rest
theorem bit_6_mhl : Statement .bit_6_mhl := fun sl rest _ => decode_one rfl (by decide) (fun _ => rfl) sl rest
theorem bit_6_a : Statement .bit_6_a := fun sl rest _ => decode_one rfl (by decide) (fun _ => rfl) sl rest
theorem bit_7_b : Statement .bit_7_b := fun sl rest _ => decode_one rfl (by decide) (fun _ => rfl) sl rest
theorem bit_7_c : Statement .bit_7_c := fun sl rest _ => decode_one rfl (by decide) (fun _ => rfl) sl rest
theorem bit_7_d : Statement .bit_7_d := fun sl rest _ => decode_one rfl (by decide) (fun _ => rfl) sl rest
theorem bit_7_e : Statement .bit_7_e := fun sl rest _ => decode_one rfl (by decide) (fun _ => rfl) sl rest
theorem bit_7_h : Statement .bit_7_h := fun sl rest _ => decode_one rfl (by decide) (fun _ => rfl) sl rest
theorem bit_7_l : Statement .bit_7_l := fun sl rest _ => decode_one rfl (by decide) (fun _ => rfl) sl rest
theorem bit_7_mhl : Statement .bit_7_mhl := fun sl rest _ => decode_one rfl (by decide) (fun _ => rfl) sl rest
theorem bit_7_a : Statement .bit_7_a := fun sl rest _ => decode_one rfl (by decide) (fun _ => rfl) sl rest
theorem res_0_b : Statement .res_0_b := fun sl rest _ => decode_one rfl (by decide) (fun _ => rfl) sl rest
theorem res_0_c : Statement .res_0_c := fun sl rest _ => decode_one rfl (by decide) (fun _ => rfl) sl rest
theorem res_0_d : Statement .res_0_d := fun sl rest _ => decode_one rfl (by decide) (fun _ => rfl) sl rest
theorem res_0_e : Statement .res_0_e := fun sl rest _ => decode_one rfl (by decide) (fun _ => rfl) sl rest
theorem res_0_h : Statement .res_0_h := fun sl rest _ => decode_one rfl (by decide) (fun _ => rfl) sl rest
theorem res_0_l : Statement .res_0_l := fun sl rest _ => decode_one rfl (by decide) (fun _ => rfl) sl rest
theorem res_0_mhl : Statement .res_0_mhl := fun sl rest _ => decode_one rfl (by decide) (fun _ => rfl) sl rest
theorem res_0_a : Statement .res_0_a := fun sl rest _ => decode_one rfl (by decide) (fun _ => rfl) sl rest
theorem res_1_b : Statement .res_1_b := fun sl rest _ => decode_one rfl (by decide) (fun _ => rfl) sl rest
theorem res_1_c : Statement .res_1_c := fun sl rest _ => decode_one rfl (by decide) (fun _ => rfl) sl rest
theorem res_1_d : Statement .res_1_d := fun sl rest _ => decode_one rfl (by decide) (fun _ => rfl) sl rest
theorem res_1_e : Statement .res_1_e := fun sl rest _ => decode_one rfl (by decide) (fun _ => rfl) sl rest
theorem res_1_h : Statement .res_1_h := fun sl rest _ => decode_one rfl (by decide) (fun _ => rfl) sl rest
theorem res_1_l : Statement .res_1_l := fun sl rest _ => decode_one rfl (by decide) (fun _ => rfl) sl rest
theorem res_1_mhl : Statement .res_1_mhl := fun sl rest _ => decode_one rfl (by decide) (fun _ => rfl) sl rest
theorem res_1_a : Statement .res_1_a := fun sl rest _ => decode_one rfl (by decide) (fun _ => rfl) sl rest
theorem res_2_b : Statement .res_2_b := fun sl rest _ => decode_one rfl (by decide) (fun _ => rfl) sl rest
theorem res_2_c : Statement .res_2_c := fun sl rest _ => decode_one rfl (by decide) (fun _ => rfl) sl rest
theorem res_2_d : Statement .res_2_d := fun sl rest _ => decode_one rfl (by decide) (fun _ => rfl) sl rest
theorem res_2_e : Statement .res_2_e := fun sl rest _ => decode_one rfl (by decide) (fun _ => rfl) sl rest
theorem res_2_h : Statement .res_2_h := fun sl rest _ => decode_one rfl (by decide) (fun _ => rfl) sl rest
theorem res_2_l : Statement .res_2_l := fun sl rest _ => decode_one rfl (by decide) (fun _ => rfl) sl rest
theorem res_2_mhl : Statement .res_2_mhl := fun sl rest _ => decode_one rfl (by decide) (fun _ => rfl) sl rest
theorem res_2_a : Statement .res_2_a := fun sl rest _ => decode_one rfl (by decide) (fun _ => rfl) sl rest
theorem res_3_b : Statement .res_3_b := fun sl rest _ => decode_one rfl (by decide) (fun _ => rfl) sl rest
theorem res_3_c : Statement .res_3_c := fun sl rest _ => decode_one rfl (by decide) (fun _ => rfl) sl rest
theorem res_3_d : Statement .res_3_d := fun sl rest _ => decode_one rfl (by decide) (fun _ => rfl) sl rest
theorem res_3_e : Statement .res_3_e := fun sl rest _ => decode_one rfl (by decide) (fun _ => rfl) sl rest
theorem res_3_h : Statement .res_3_h := fun sl rest _ => decode_one rfl (by decide) (fun _ => rfl) sl rest
theorem res_3_l : Statement .res_3_l := fun sl rest _ => decode_one rfl (by decide) (fun _ => rfl) sl rest
theorem res_3_mhl : Statement .res_3_mhl := fun sl rest _ => decode_one rfl (by decide) (fun _ => rfl) sl rest
theorem res_3_a : Statement .res_3_a := fun sl rest _ => decode_one rfl (by decide) (fun _ => rfl) sl rest
theorem res_4_b : Statement .res_4_b := fun sl rest _ => decode_one rfl (by decide) (fun _ => rfl) sl rest
theorem res_4_c : Statement .res_4_c := fun sl rest _ => decode_one rfl (by decide) (fun _ => rfl) sl rest
theorem res_4_d : Statement .res_4_d := fun sl rest _ => decode_one rfl (by decide) (fun _ => rfl) sl rest
theorem res_4_e : Statement .res_4_e := fun sl rest _ => decode_one rfl (by decide) (fun _ => rfl) sl rest
theorem res_4_h : Statement .res_4_h := fun sl rest _ => decode_one rfl (by decide) (fun _ => rfl) sl rest
theorem res_4_l : Statement .res_4_l := fun sl rest _ => decode_one rfl (by decide) (fun _ => rfl) sl rest
theorem res_4_mhl : Statement .res_4_mhl := fun sl rest _ => decode_one rfl (by decide) (fun _ => rfl) sl rest
theorem res_4_a : Statement .res_4_a := fun sl rest _ => decode_one rfl (by decide) (fun _ => rfl) sl rest
theorem res_5_b : Statement .res_5_b := fun sl rest _ => decode_one rfl (by decide) (fun _ => rfl) sl rest
theorem res_5_c : Statement .res_5_c := fun sl rest _ => decode_one rfl (by decide) (fun _ => rfl) sl rest
theorem res_5_d : Statement .res_5_d := fun sl rest _ => decode_one rfl (by decide) (fun _ => rfl) sl rest
theorem res_5_e : Statement .res_5_e := fun sl rest _ => decode_one rfl (by decide) (fun _ => rfl) sl rest
theorem res_5_h : Statement .res_5_h := fun sl rest _ => decode_one rfl (by decide) (fun _ => rfl) sl rest
theorem res_5_l : Statement .res_5_l := fun sl rest _ => decode_one rfl (by decide) (fun _ => rfl) sl rest
theorem res_5_mhl : Statement .res_5_mhl := fun sl rest _ => decode_one rfl (by decide) (fun _ => rfl) sl rest
theorem res_5_a : Statement .res_5_a := fun sl rest _ => decode_one rfl (by decide) (fun _ => rfl) sl rest
theorem res_6_b : Statement .res_6_b := fun sl rest _ => decode_one rfl (by decide) (fun _ => rfl) sl rest
theorem res_6_c : Statement .res_6_c := fun sl rest _ => decode_one rfl (by decide) (fun _ => rfl) sl rest
theorem res_6_d : Statement .res_6_d := fun sl rest _ => decode_one rfl (by decide) (fun _ => rfl) sl rest
theorem res_6_e : Statement .res_6_e := fun sl rest _ => decode_one rfl (by decide) (fun _ => rfl) sl rest
theorem res_6_h : Statement .res_6_h := fun sl rest _ => decode_one rfl (by decide) (fun _ => rfl) sl rest
theorem res_6_l : Statement .res_6_l := fun sl rest _ => decode_one rfl (by decide) (fun _ => rfl) sl rest
theorem res_6_mhl : Statement .res_6_mhl := fun sl rest _ => decode_one rfl (by decide) (fun _ => rfl) sl rest
theorem res_6_a : Statement .res_6_a := fun sl rest _ => decode_one rfl (by decide) (fun _ => rfl) sl rest
theorem res_7_b : Statement .res_7_b := fun sl rest _ => decode_one rfl (by decide) (fun _ => rfl) sl rest
theorem res_7_c : Statement .res_7_c := fun sl rest _ => decode_one rfl (by decide) (fun _ => rfl) sl rest
theorem res_7_d : Statement .res_7_d := fun sl rest _ => decode_one rfl (by decide) (fun _ => rfl) sl rest
theorem res_7_e : Statement .res_7_e := fun sl rest _ => decode_one rfl (by decide) (fun _ => rfl) sl rest
theorem res_7_h : Statement .res_7_h := fun sl rest _ => decode_one rfl (by decide) (fun _ => rfl) sl rest
theorem res_7_l : Statement .res_7_l := fun sl rest _ => decode_one rfl (by decide) (fun _ => rfl) sl rest
theorem res_7_mhl : Statement .res_7_mhl := fun sl rest _ => decode_one rfl (by decide) (fun _ => rfl) sl rest
theorem res_7_a : Statement .res_7_a := fun sl rest _ => decode_one rfl (by decide) (fun _ => rfl) sl rest
theorem set_0_b : Statement .set_0_b := fun sl rest _ => decode_one rfl (by decide) (fun _ => rfl) sl rest
theorem set_0_c : Statement .set_0_c := fun sl rest _ => decode_one rfl (by decide) (fun _ => rfl) sl rest
theorem set_0_d : Statement .set_0_d := fun sl rest _ => decode_one rfl (by decide) (fun _ => rfl) sl rest
theorem set_0_e : Statement .set_0_e := fun sl rest _ => decode_one rfl (by decide) (fun _ => rfl) sl rest
theorem set_0_h : Statement .set_0_h := fun sl rest _ => decode_one rfl (by decide) (fun _ => rfl) sl rest
theorem set_0_l : Statement .set_0_l := fun sl rest _ => decode_one rfl (by decide) (fun _ => rfl) sl rest
theorem set_0_mhl : Statement .set_0_mhl := fun sl rest _ => decode_one rfl (by decide) (fun _ => rfl) sl rest
theorem set_0_a : Statement .set_0_a := fun sl rest _ => decode_one rfl (by decide) (fun _ => rfl) sl rest
theorem set_1_b : Statement .set_1_b := fun sl rest _ => decode_one rfl (by decide) (fun _ => rfl) sl rest
theorem set_1_c : Statement .set_1_c := fun sl rest _ => decode_one rfl (by decide) (fun _ => rfl) sl rest
theorem set_1_d : Statement .set_1_d := fun sl rest _ => decode_one rfl (by decide) (fun _ => rfl) sl rest
theorem set_1_e : Statement .set_1_e := fun sl rest _ => decode_one rfl (by decide) (fun _ => rfl) sl rest
theorem set_1_h : Statement .set_1_h := fun sl rest _ => decode_one rfl (by decide) (fun _ => rfl) sl rest
theorem set_1_l : Statement .set_1_l := fun sl rest _ => decode_one rfl (by decide) (fun _ => rfl) sl rest
theorem set_1_mhl : Statement .set_1_mhl := fun sl rest _ => decode_one rfl (by decide) (fun _ => rfl) sl rest
theorem set_1_a : Statement .set_1_a := fun sl rest _ => decode_one rfl (by decide) (fun _ => rfl) sl rest
theorem set_2_b : Statement .set_2_b := fun sl rest _ => decode_one rfl (by decide) (fun _ => rfl) sl rest
theorem set_2_c : Statement .set_2_c := fun sl rest _ => decode_one rfl (by decide) (fun _ => rfl) sl rest
theorem set_2_d : Statement .set_2_d := fun sl rest _ => decode_one rfl (by decide) (fun _ => rfl) sl rest
theorem set_2_e : Statement .set_2_e := fun sl rest _ => decode_one rfl (by decide) (fun _ => rfl) sl rest
theorem set_2_h : Statement .set_2_h := fun sl rest _ => decode_one rfl (by decide) (fun _ => rfl) sl rest
theorem set_2_l : Statement .set_2_l := fun sl rest _ => decode_one rfl (by decide) (fun _ => rfl) sl rest
theorem set_2_mhl : Statement .set_2_mhl := fun sl rest _ => decode_one rfl (by decide) (fun _ => rfl) sl rest
theorem set_2_a : Statement .set_2_a := fun sl rest _ => decode_one rfl (by decide) (fun _ => rfl) sl rest
theorem set_3_b : Statement .set_3_b := fun sl rest _ => decode_one rfl (by decide) (fun _ => rfl) sl rest
theorem set_3_c : Statement .set_3_c := fun sl rest _ => decode_one rfl (by decide) (fun _ => rfl) sl rest
theorem set_3_d : Statement .set_3_d := fun sl rest _ => decode_one rfl (by decide) (fun _ => rfl) sl rest
theorem set_3_e : Statement .set_3_e := fun sl rest _ => decode_one rfl (by decide) (fun _ => rfl) sl rest
theorem set_3_h : Statement .set_3_h := fun sl rest _ => decode_one rfl (by decide) (fun _ => rfl) sl rest
theorem set_3_l : Statement .set_3_l := fun sl rest _ => decode_one rfl (by decide) (fun _ => rfl) sl rest
theorem set_3_mhl : Statement .set_3_mhl := fun sl rest _ => decode_one rfl (by decide) (fun _ => rfl) sl rest
theorem set_3_a : Statement .set_3_a := fun sl rest _ => decode_one rfl (by decide) (fun _ => rfl) sl rest
theorem set_4_b : Statement .set_4_b := fun sl rest _ => decode_one rfl (by decide) (fun _ => rfl) sl rest
theorem set_4_c : Statement .set_4_c := fun sl rest _ => decode_one rfl (by decide) (fun _ => rfl) sl rest
theorem set_4_d : Statement .set_4_d := fun sl rest _ => decode_one rfl (by decide) (fun _ => rfl) sl rest
theorem set_4_e : Statement .set_4_e := fun sl rest _ => decode_one rfl (by decide) (fun _ => rfl) sl rest
theorem set_4_h : Statement .set_4_h := fun sl rest _ => decode_one rfl (by decide) (fun _ => rfl) sl rest
theorem set_4_l : Statement .set_4_l := fun sl rest _ => decode_one rfl (by decide) (fun _ => rfl) sl rest
theorem set_4_mhl : Statement .set_4_mhl := fun sl rest _ => decode_one rfl (by decide) (fun _ => rfl) sl rest
theorem set_4_a : Statement .set_4_a := fun sl rest _ => decode_one rfl (by decide) (fun _ => rfl) sl rest
theorem set_5_b : Statement .set_5_b := fun sl rest _ => decode_one rfl (by decide) (fun _ => rfl) sl rest
theorem set_5_c : Statement .set_5_c := fun sl rest _ => decode_one rfl (by decide) (fun _ => rfl) sl rest
theorem set_5_d : Statement .set_5_d := fun sl rest _ => decode_one rfl (by decide) (fun _ => rfl) sl rest
theorem set_5_e : Statement .set_5_e := fun sl rest _ => decode_one rfl (by decide) (fun _ => rfl) sl rest
theorem set_5_h : Statement .set_5_h := fun sl rest _ => decode_one rfl (by decide) (fun _ => rfl) sl rest
theorem set_5_l : Statement .set_5_l := fun sl rest _ => decode_one rfl (by decide) (fun _ => rfl) sl rest
theorem set_5_mhl : Statement .set_5_mhl := fun sl rest _ => decode_one rfl (by decide) (fun _ => rfl) sl rest
theorem set_5_a : Statement .set_5_a := fun sl rest _ => decode_one rfl (by decide) (fun _ => rfl) sl rest
theorem set_6_b : Statement .set_6_b := fun sl rest _ => decode_one rfl (by decide) (fun _ => rfl) sl rest
theorem set_6_c : Statement .set_6_c := fun sl rest _ => decode_one rfl (by decide) (fun _ => rfl) sl rest
theorem set_6_d : Statement .set_6_d := fun sl rest _ => decode_one rfl (by decide) (fun _ => rfl) sl rest
theorem set_6_e : Statement .set_6_e := fun sl rest _ => decode_one rfl (by decide) (fun _ => rfl) sl rest
theorem set_6_h : Statement .set_6_h := fun sl rest _ => decode_one rfl (by decide) (fun _ => rfl) sl rest
theorem set_6_l : Statement .set_6_l := fun sl rest _ => decode_one rfl (by decide) (fun _ => rfl) sl rest
theorem set_6_mhl : Statement .set_6_mhl := fun sl rest _ => decode_one rfl (by decide) (fun _ => rfl) sl rest
theorem set_6_a : Statement .set_6_a := fun sl rest _ => decode_one rfl (by decide) (fun _ => rfl) sl rest
theorem set_7_b : Statement .set_7_b := fun sl rest _ => decode_one rfl (by decide) (fun _ => rfl) sl rest
theorem set_7_c : Statement .set_7_c := fun sl rest _ => decode_one rfl (by decide) (fun _ => rfl) sl rest
theorem set_7_d : Statement .set_7_d := fun sl rest _ => decode_one rfl (by decide) (fun _ => rfl) sl rest
theorem set_7_e : Statement .set_7_e := fun sl rest _ => decode_one rfl (by decide) (fun _ => rfl) sl rest
theorem set_7_h : Statement .set_7_h := fun sl rest _ => decode_one rfl (by decide) (fun _ => rfl) sl rest
theorem set_7_l : Statement .set_7_l := fun sl rest _ => decode_one rfl (by decide) (fun _ => rfl) sl rest
theorem set_7_mhl : Statement .set_7_mhl := fun sl rest _ => decode_one rfl (by decide) (fun _ => rfl) sl rest
theorem set_7_a : Statement .set_7_a := fun sl rest _ => decode_one rfl (by decide) (fun _ => rfl) sl rest

end RoundTrip

end Sys2Proof.Laws
end

