-- ==== Sys2Proof/Tests/Slice0.lean ====
section
/-! SUPPORT. The model's own tests: the well-formedness smoke tests, words written out from 30_encoding.md R85 and R86, one
Step on the worked examples of the spec's rules and on rows of 95_test_vectors.md, and for every obligation with
hypotheses a state and operands that meet them together. -/

namespace Sys2Proof.Tests

open Sys2Proof.Machine

/-- The state with these bytes in memory from an address on. -/
def put (s : State) (at_ : Word) : List Byte → State
  | [] => s
  | v :: rest => put { s with mem := s.mem.write at_.toNat v } (at_ + 1) rest

/-- The state after reset with these bytes at its PC. -/
def code (bytes : List Byte) : State := put State.reset State.reset.pc bytes

/-- The state after one Step. -/
def after (s : State) : Option State :=
  match step s with
  | .next t => some t
  | .fault _ => none
  | .refused _ => none

/-- One field of the state after one Step. -/
def look {α : Type} (s : State) (g : State → α) : Option α := (after s).map g

/-! ## Well-formedness: a term each check refuses, and a good one -/

theorem test_undefined_marker_is_ill_formed :
    Instr.illFormed .undefined_d3 = some (.undefinedSlot 0xD3) ∧ Instr.undefined_d3.wellFormed = false := by decide
theorem test_prefix_alone_is_ill_formed :
    Instr.illFormed .prefix_cb = some .prefixAlone ∧ Instr.prefix_cb.wellFormed = false := by decide
theorem test_nop_is_well_formed : Instr.illFormed .nop = none ∧ Instr.nop.wellFormed = true := by decide

/-! ## Decoding: words written out bit by bit from R85 and R86 -/

theorem test_decode_load : decode .two [0b01000001] = .ok (.ld_b_c, []) := by decide
theorem test_decode_load_immediate : decode .two [0b00111110, 0x42] = .ok (.ld_a_n8 0x42, []) := by decide
theorem test_decode_load_pair : decode .two [0b00110001, 0xFE, 0xDF, 0x00] = .ok (.ld_sp_n16 0xDFFE, [0x00]) := by decide
theorem test_decode_high_page : decode .two [0b11110000, 0x44] = .ok (.ldh_a_ma8 0x44, []) := by decide
theorem test_decode_arithmetic : decode .two [0b10001110] = .ok (.adc_a_mhl, []) := by decide
theorem test_decode_add_hl : decode .two [0b00111001] = .ok (.add_hl_sp, []) := by decide
theorem test_decode_logic : decode .two [0b11101110, 0x0F] = .ok (.xor_n8 0x0F, []) := by decide
theorem test_decode_compare : decode .two [0b10111000] = .ok (.cp_b, []) := by decide
theorem test_decode_incdec : decode .two [0b00110101] = .ok (.dec_mhl, []) := by decide
theorem test_decode_control : decode .two [0b11011010, 0x34, 0x12] = .ok (.jp_c_a16 0x1234, []) := by decide
theorem test_decode_rst : decode .two [0b11101111] = .ok (.rst_28, []) := by decide
theorem test_decode_swap : decode .two [0b11001011, 0b00110111] = .ok (.swap_a, []) := by decide
theorem test_decode_bit : decode .two [0b11001011, 0b01111110] = .ok (.bit_7_mhl, []) := by decide
theorem test_decode_prefix_after_prefix : decode .two [0b11001011, 0b11001011] = .ok (.set_1_e, []) := by decide
theorem test_decode_stack : decode .two [0b11110101] = .ok (.push_af, []) := by decide
theorem test_decode_system : decode .two [0b01110110] = .ok (.halt, []) := by decide
theorem test_decode_stop_lengths :
    decode .two [0x10, 0x00, 0x00] = .ok (.stop, [0x00]) ∧ decode .one [0x10, 0x00, 0x00] = .ok (.stop, [0x00, 0x00]) := by
  decide
theorem test_decode_undefined : decode .two [0xD3] = .ok (.undefined_d3, []) := by decide
theorem test_decode_rejects_by_name :
    decode .two [] = .error .noBytes ∧ decode .two [0x01, 0x34] = .error (.cutShort 0x01) := by decide
theorem test_decode_prefix_alone : decode .two [0xCB] = .ok (.prefix_cb, []) := by decide
/-- R91 numbers a CB row with its first byte high: 0xCB37 is SWAP A (log entry 8). -/
theorem test_table_word_of_cb_row : decodeTableWord 16 0xCB37 = some .swap_a := by decide
theorem test_table_word_of_primary_row :
    decodeTableWord 8 0x41 = some .ld_b_c ∧ decodeTableWord 8 0xD3 = some .undefined_d3 := by decide
/-- The table gives row 0x01 eight bits; its immediate is zeros. -/
theorem test_table_word_with_operands : decodeTableWord 8 0x01 = some (.ld_bc_n16 0) := by decide
theorem test_placed_word_runs :
    look (State.reset.withFetchWord 16 0xCB37) (fun t => (t.pc, t.cycles, t.f)) = some (0x0102, 8, 0x80) := by decide

/-! ## One Step: the rules' worked examples -/

theorem test_ld_b_c : look { code [0x41] with c := 0x5A } (fun t => (t.b, t.pc, t.cycles)) = some (0x5A, 0x0101, 4) := by
  decide
theorem test_ld_h_mhl :
    look (put { code [0x66] with h := 0xC0 } 0xC000 [0x99]) (fun t => (t.h, t.l)) = some (0x99, 0x00) := by decide
theorem test_ld_mhl_n8 :
    look { code [0x36, 0xAB] with h := 0xC0 } (fun t => (t.byteAt 0xC000, t.pc, t.cycles)) = some (0xAB, 0x0102, 12) := by
  decide
theorem test_ld_a_mhli_wraps :
    look (put { code [0x2A] with h := 0xFF, l := 0xFF } 0xFFFF [0x5E]) (fun t => (t.a, t.h, t.l)) = some (0x5E, 0x00, 0x00) := by
  decide
theorem test_ld_mhld_a :
    look { code [0x32] with a := 0x07, h := 0xDF, l := 0xFF } (fun t => (t.byteAt 0xDFFF, t.l)) = some (0x07, 0xFE) := by
  decide
theorem test_ldh_ma8_a : look { code [0xE0, 0x40] with a := 0x80 } (fun t => t.byteAt 0xFF40) = some 0x80 := by decide
/-- The source's example, with the cycle count of 90_conflicts.md C1. -/
theorem test_ld_bc_n16 :
    look (put { State.reset with pc := 0 } 0 [0x01, 0x34, 0x12]) (fun t => (t.b, t.c, t.pc, t.cycles)) =
      some (0x12, 0x34, 0x0003, 12) := by decide
theorem test_ld_hl_sp_negative :
    look { code [0xF8, 0xFF] with sp := 0 } (fun t => (t.h, t.l, t.f, t.sp)) = some (0xFF, 0xFF, 0x00, 0x0000) := by decide
theorem test_ld_ma16_sp :
    look { code [0x08, 0xFF, 0xFF] with sp := 0xABF8 } (fun t => (t.byteAt 0xFFFF, t.byteAt 0x0000)) = some (0xF8, 0xAB) := by
  decide
theorem test_add_wraps :
    look { code [0xC6, 0x01] with a := 0xFF } (fun t => (t.a, t.f, t.cycles)) = some (0x00, 0xB0, 8) := by decide
theorem test_adc_uses_carry :
    look { code [0x88] with a := 0xE1, b := 0x0F, f := 0x10 } (fun t => (t.a, t.f)) = some (0xF1, 0x20) := by decide
theorem test_sub_borrows :
    look { code [0xD6, 0x01] with a := 0x00 } (fun t => (t.a, t.f)) = some (0xFF, 0x70) := by decide
theorem test_sbc_a_a : look { code [0x9F] with a := 0x33, f := 0x10 } (fun t => (t.a, t.f)) = some (0xFF, 0x70) := by
  decide
theorem test_add_hl_keeps_z :
    look { code [0x09] with h := 0x0F, l := 0xFF, c := 0x01, f := 0x80 } (fun t => (t.h, t.l, t.f)) =
      some (0x10, 0x00, 0xA0) := by decide
theorem test_add_sp_negative :
    look { code [0xE8, 0xFF] with sp := 0x0001 } (fun t => (t.sp, t.f, t.cycles)) = some (0x0000, 0x30, 16) := by decide
theorem test_daa_after_add : look { code [0x27] with a := 0x7D } (fun t => (t.a, t.f)) = some (0x83, 0x00) := by decide
theorem test_and_sets_h : look { code [0xE6, 0x0F] with a := 0x5A } (fun t => (t.a, t.f)) = some (0x0A, 0x20) := by decide
theorem test_cpl_keeps_z : look { code [0x2F] with a := 0xFF } (fun t => (t.a, t.f)) = some (0x00, 0x60) := by decide
theorem test_ccf : look { code [0x3F] with f := 0x70 } (fun t => t.f) = some 0x00 := by decide
theorem test_cp_keeps_a : look { code [0xFE, 0x40] with a := 0x3C } (fun t => (t.a, t.f)) = some (0x3C, 0x50) := by decide
theorem test_inc_keeps_c : look { code [0x04] with b := 0xFF, f := 0x10 } (fun t => (t.b, t.f)) = some (0x00, 0xB0) := by
  decide
theorem test_dec_mhl :
    look { code [0x35] with h := 0xC0 } (fun t => (t.byteAt 0xC000, t.f, t.cycles)) = some (0xFF, 0x60, 12) := by decide
theorem test_inc_de : look { code [0x13] with e := 0xFF } (fun t => (t.d, t.e, t.f)) = some (0x01, 0x00, 0x00) := by decide
theorem test_jp_nz_not_taken :
    look { code [0xC2, 0x50, 0x01] with f := 0x80 } (fun t => (t.pc, t.cycles)) = some (0x0103, 12) := by decide
theorem test_jr_back :
    look (put { State.reset with pc := 0x0200 } 0x0200 [0x18, 0xFB]) (fun t => (t.pc, t.cycles)) = some (0x01FD, 12) := by
  decide
theorem test_call :
    look (put { State.reset with pc := 0x0150, sp := 0xFFFE } 0x0150 [0xCD, 0x00, 0x20])
      (fun t => (t.byteAt 0xFFFD, t.byteAt 0xFFFC, t.sp, t.pc, t.cycles)) = some (0x01, 0x53, 0xFFFC, 0x2000, 24) := by decide
theorem test_call_bus_calls :
    look (put { State.reset with pc := 0x0150, sp := 0xFFFE } 0x0150 [0xCD, 0x00, 0x20]) (fun t => t.bus) =
      some [.read 0x0150 0xCD, .read 0x0151 0x00, .read 0x0152 0x20, .write 0xFFFD 0x01, .write 0xFFFC 0x53] := by decide
theorem test_ret_wraps :
    look (put (put { code [0xC9] with sp := 0xFFFF } 0xFFFF [0x53]) 0x0000 [0x01]) (fun t => (t.pc, t.sp, t.cycles)) =
      some (0x0153, 0x0001, 16) := by decide
theorem test_reti_enables_at_once :
    look (put { code [0xD9] with sp := 0xDFFC } 0xDFFC [0x34, 0x12]) (fun t => (t.pc, t.sp, t.ime)) =
      some (0x1234, 0xDFFE, true) := by decide
theorem test_rst_28 :
    look (put { State.reset with pc := 0x0200, sp := 0xFFFE } 0x0200 [0xEF])
      (fun t => (t.byteAt 0xFFFD, t.byteAt 0xFFFC, t.pc)) = some (0x02, 0x01, 0x0028) := by decide
theorem test_rlca_clears_z : look { code [0x07] with a := 0x85 } (fun t => (t.a, t.f)) = some (0x0B, 0x10) := by decide
theorem test_rra : look { code [0x1F] with a := 0x81 } (fun t => (t.a, t.f)) = some (0x40, 0x10) := by decide
theorem test_rl_l : look { code [0xCB, 0x15] with l := 0x80 } (fun t => (t.l, t.f, t.cycles)) = some (0x00, 0x90, 8) := by
  decide
theorem test_sra_a : look { code [0xCB, 0x2F] with a := 0x8A } (fun t => (t.a, t.f)) = some (0xC5, 0x00) := by decide
theorem test_swap_a : look { code [0xCB, 0x37] with a := 0xF1 } (fun t => (t.a, t.f)) = some (0x1F, 0x00) := by decide
theorem test_bit_7_h : look { code [0xCB, 0x7C] with h := 0x7F, f := 0x10 } (fun t => (t.h, t.f)) = some (0x7F, 0xB0) := by
  decide
theorem test_set_7_mhl :
    look { code [0xCB, 0xFE] with h := 0xC0 } (fun t => (t.byteAt 0xC000, t.f, t.cycles)) = some (0x80, 0x00, 16) := by decide
theorem test_push_bc :
    look { code [0xC5] with sp := 0xFFFE, b := 0x12, c := 0x34 } (fun t => (t.byteAt 0xFFFD, t.byteAt 0xFFFC, t.sp)) =
      some (0x12, 0x34, 0xFFFC) := by decide
theorem test_pop_af_masks_f :
    look (put { code [0xF1] with sp := 0xDFF0 } 0xDFF0 [0x1F, 0xAB]) (fun t => (t.a, t.f, t.sp)) =
      some (0xAB, 0x10, 0xDFF2) := by decide
theorem test_halt : look (code [0x76]) (fun t => (t.halted, t.haltBug, t.pc)) = some (true, false, 0x0101) := by decide
theorem test_halt_bug :
    look { code [0x76] with inputs := [{ irq := 0x01 }] } (fun t => (t.halted, t.haltBug, t.pc)) =
      some (false, true, 0x0101) := by decide
/-- R34: the opcode fetch does not advance PC, the immediate does. -/
theorem test_halt_bug_fetch :
    look { code [0x3E, 0x42] with haltBug := true } (fun t => (t.a, t.pc, t.haltBug)) = some (0x3E, 0x0101, false) := by decide
theorem test_stop :
    look (put { State.reset with pc := 0x0150 } 0x0150 [0x10, 0x00]) (fun t => (t.pc, t.stopped, t.bus)) =
      some (0x0152, true, [.read 0x0150 0x10]) := by decide
theorem test_ei_waits : look (code [0xFB]) (fun t => (t.ime, t.imePending)) = some (false, true) := by decide
theorem test_ei_commits :
    look { code [0x00] with imePending := true } (fun t => (t.ime, t.imePending)) = some (true, false) := by decide
theorem test_di_cancels_ei :
    look { code [0xF3] with imePending := true } (fun t => (t.ime, t.imePending)) = some (false, false) := by decide
theorem test_undefined_locks :
    look (put { State.reset with pc := 0x0200 } 0x0200 [0xD3]) (fun t => (t.locked, t.pc)) =
      some (some (.undefinedOpcode 0xD3 0x0200), 0x0200) := by decide
theorem test_locked_stays : after { State.reset with locked := some (.undefinedOpcode 0xD3 0x0200) } = none := by decide
theorem test_interrupt_entry :
    look { State.reset with pc := 0x1234, sp := 0xFFFE, ime := true, inputs := [{ irq := 0x14 }] }
      (fun t => (t.pc, t.byteAt 0xFFFD, t.byteAt 0xFFFC, t.ack, t.cycles)) =
      some (0x0050, 0x12, 0x34, some .timer, 20) := by decide
theorem test_interrupt_entry_after_halt_bug :
    look { State.reset with pc := 0x0201, sp := 0xFFFE, ime := true, haltBug := true, inputs := [{ irq := 0x01 }] }
      (fun t => (t.pc, t.byteAt 0xFFFD, t.byteAt 0xFFFC, t.haltBug)) = some (0x0040, 0x02, 0x00, false) := by decide
theorem test_halted_wakes_without_ime :
    look { State.reset with halted := true, inputs := [{ irq := 0x10 }] } (fun t => (t.halted, t.cycles, t.bus)) =
      some (false, 4, []) := by decide
theorem test_irq_does_not_wake_stop :
    look { State.reset with stopped := true, ime := true, inputs := [{ irq := 0x1F }] } (fun t => (t.stopped, t.ack)) =
      some (true, none) := by decide
theorem test_wake_ends_stop :
    look { State.reset with stopped := true, inputs := [{ wake := true }] } (fun t => (t.stopped, t.cycles)) =
      some (false, 4) := by decide
/-- The platform may change any byte between Steps (R52): the change is what this Step fetches. -/
theorem test_platform_change_is_fetched :
    look { State.reset with inputs := [{ platform := [(0x0100, 0x3C)] }] } (fun t => (t.a, t.pc)) = some (0x01, 0x0101) := by
  decide
/-- The bus answers each read on its own (R52, R58, D11): under the halt bug the Step fetches one address twice, and the
opcode and the immediate are two answers; memory holds neither. -/
theorem test_one_address_two_answers :
    look { code [0x76] with haltBug := true, inputs := [{ answers := [0x3E, 0x42] }] } (fun t => (t.a, t.pc, t.bus)) =
      some (0x42, 0x0101, [.read 0x0100 0x3E, .read 0x0100 0x42]) := by decide
/-- A Step that reads its own code as data: the fetch of LD A,(HL) and its read of the same address differ. -/
theorem test_read_of_own_code :
    look { code [0x7E] with h := 0x01, inputs := [{ answers := [0x7E, 0x99] }] } (fun t => (t.a, t.byteAt 0x0100)) =
      some (0x99, 0x7E) := by decide
/-- Where the answers are used up, memory answers: RETI's low byte from the bus, its high byte from memory. -/
theorem test_answers_used_up :
    look { put (code [0xD9]) 0x0000 [0x34, 0x12] with inputs := [{ answers := [0xD9, 0x50] }] } (fun t => t.pc) =
      some 0x1250 := by decide
/-- The read of an undefined opcode has reached the bus (R310). -/
theorem test_undefined_opcode_from_the_bus :
    look { State.reset with inputs := [{ answers := [0xED] }] } (fun t => (t.locked, t.bus)) =
      some (some (.undefinedOpcode 0xED 0x0100), [.read 0x0100 0xED]) := by decide
/-- Answers are for one Step: the placed word runs although the input has answers of its own. -/
theorem test_placed_word_runs_whatever_the_bus_answers :
    look ({ State.reset with inputs := [{ answers := [0x00] }] }.withFetchWord 8 0x3C) (fun t => t.a) = some 0x01 := by decide
/-- Writing the byte an unlisted address reads as leaves no entry. -/
theorem test_memory_stays_canonical :
    ((Memory.write [] 5 0x07).write 3 0x01).write 5 0x00 = [(3, 0x01)] ∧ Memory.wf [(5, 0x07), (3, 0x01)] = false := by decide

/-! ## States and operands that meet the hypotheses of the obligations -/

/-- A state whose next Step fetches these bytes. -/
theorem test_meets_step_runs :
    let s := code [0x3E, 0x42]
    s.RunsInstruction ∧ decode s.stopLength s.start.codeBytes = .ok (.ld_a_n8 0x42, [0x00]) ∧
    Instr.wellFormed (.ld_a_n8 0x42) = true ∧
    ∃ t, exec (.ld_a_n8 0x42) (s.start.fetched (operandBytes (s.start.answer 0 s.pc))) = .next t :=
  ⟨by unfold State.RunsInstruction; decide, by decide, by decide, _, rfl⟩

/-- The same with a pending EI, so that the commit happens. -/
theorem test_meets_step_runs_and_commits :
    let s := { code [0x00] with imePending := true }
    s.RunsInstruction ∧ decode s.stopLength s.start.codeBytes = .ok (.nop, [0x00, 0x00]) ∧ Instr.wellFormed .nop = true ∧
    ∃ t, exec .nop (s.start.fetched (operandBytes (s.start.answer 0 s.pc))) = .next t ∧ s.imePending = true ∧
      t.imePending = true :=
  ⟨by unfold State.RunsInstruction; decide, by decide, by decide, _, rfl, rfl, rfl⟩

/-- Under the halt bug, with two answers for the one address that is fetched twice. -/
theorem test_meets_step_runs_on_two_answers :
    let s := { code [0x76] with haltBug := true, inputs := [{ answers := [0x3E, 0x42] }] }
    s.RunsInstruction ∧ decode s.stopLength s.start.codeBytes = .ok (.ld_a_n8 0x42, [0x00]) ∧
    Instr.wellFormed (.ld_a_n8 0x42) = true ∧
    ∃ t, exec (.ld_a_n8 0x42) (s.start.fetched (operandBytes (s.start.answer 0 s.pc))) = .next t :=
  ⟨by unfold State.RunsInstruction; decide, by decide, by decide, _, rfl⟩

theorem test_meets_ei : let s := code [0xFB]
    s.RunsInstruction ∧ decode s.stopLength s.start.codeBytes = .ok (.ei, [0x00, 0x00]) ∧ Instr.wellFormed .ei = true ∧
    s.imePending = false := ⟨by unfold State.RunsInstruction; decide, by decide, by decide, by decide⟩

theorem test_meets_commit_after_ei : let s := { code [0xFB] with imePending := true }
    s.RunsInstruction ∧ decode s.stopLength s.start.codeBytes = .ok (.ei, [0x00, 0x00]) ∧ Instr.wellFormed .ei = true ∧
    s.imePending = true ∧ Instr.ei ≠ .di := ⟨by unfold State.RunsInstruction; decide, by decide, by decide, by decide, by decide⟩

theorem test_meets_di : let s := { code [0xF3] with imePending := true }
    s.RunsInstruction ∧ decode s.stopLength s.start.codeBytes = .ok (.di, [0x00, 0x00]) ∧ Instr.wellFormed .di = true :=
  ⟨by unfold State.RunsInstruction; decide, by decide, by decide⟩

theorem test_meets_undefined_opcode : let s := { code [0xFD] with haltBug := true }
    s.RunsInstruction ∧ s.start.answer 0 s.pc = 0xFD ∧ (0xFD : Byte) ∈ undefinedOpcodes :=
  ⟨by unfold State.RunsInstruction; decide, by decide, by decide⟩

theorem test_meets_locked_and_not :
    State.reset.locked = none ∧
    ({ State.reset with locked := some (.undefinedOpcode 0xD3 0x0100) } : State).locked =
      some (.undefinedOpcode 0xD3 0x0100) := by decide

/-- The highest-numbered request alone, under the halt bug. -/
theorem test_meets_interrupt_entry_joypad :
    let s : State := { State.reset with ime := true, haltBug := true, inputs := [{ irq := 0x10 }] }
    s.locked = none ∧ s.stopped = false ∧ s.halted = false ∧ s.ime = true ∧
    s.input.irq.getLsbD Interrupt.joypad.number = true ∧ ∀ k < Interrupt.joypad.number, s.input.irq.getLsbD k = false := by
  decide

/-- All requests at once: the lowest. -/
theorem test_meets_interrupt_entry_vblank :
    let s : State := { State.reset with ime := true, inputs := [{ irq := 0x1F, wake := true }] }
    s.locked = none ∧ s.stopped = false ∧ s.halted = false ∧ s.ime = true ∧
    s.input.irq.getLsbD Interrupt.vblank.number = true ∧ ∀ k < Interrupt.vblank.number, s.input.irq.getLsbD k = false := by
  decide

theorem test_meets_idle_stopped :
    let s : State := { State.reset with stopped := true, halted := true }
    s.locked = none ∧ s.stopped = true := by decide

theorem test_meets_idle_halted :
    let s : State := { State.reset with halted := true }
    s.locked = none ∧ s.stopped = false ∧ s.halted = true := by decide

/-- IME cleared by interrupt entry. -/
theorem test_meets_ime_entry :
    let s : State := { State.reset with ime := true, inputs := [{ irq := 0x01 }] }
    look s (fun t => (t.ime, t.ack)) = some (false, some .vblank) ∧ s.ime = true := by decide

/-- IME cleared by DI, set by RETI, set by the commit of EI. -/
theorem test_meets_ime_instructions :
    look { code [0xF3] with ime := true } (fun t => t.ime) = some false ∧
    look (code [0xD9]) (fun t => t.ime) = some true ∧
    look { code [0x00] with imePending := true } (fun t => t.ime) = some true := by decide

theorem test_meets_sp_written : ∃ t, exec .inc_sp State.reset = .next t ∧ t.sp ≠ State.reset.sp :=
  ⟨_, rfl, by decide⟩

theorem test_meets_counts : ∃ t, step State.reset = .next t ∧ t.result = .ok 4 := ⟨_, rfl, by decide⟩

theorem test_meets_invariant : State.reset.Inv ∧ ∃ t, step State.reset = .next t :=
  ⟨⟨by decide, by decide, ⟨by decide, by decide⟩, fun _ h => (by cases h), by decide⟩, _, rfl⟩

theorem test_meets_decode_of_encode :
    (Instr.isPrefix .prefix_cb = true → ([] : List Byte) = []) ∧ (Instr.isPrefix .nop = true → ([0x00] : List Byte) = []) := by
  decide

theorem test_meets_encode_of_decode :
    decode .two [0xCB, 0x37, 0x55] = .ok (.swap_a, [0x55]) ∧ Instr.swap_a ≠ .stop := by decide

theorem test_meets_load_copy : ¬(R8.mhl = .mhl ∧ R8.a = .mhl) ∧ ¬(R8.h = .mhl ∧ R8.mhl = .mhl) := by decide

theorem test_meets_load_from_address :
    (Instr.ldh_a_ma8 0xFF, [0xF0, 0xFF], 0xFF00 + zext16 0xFF, 12) ∈
      [(Instr.ld_a_ma16 0xC234, [0xFA, loByte 0xC234, hiByte 0xC234], 0xC234, 16),
       (.ldh_a_ma8 0xFF, [0xF0, 0xFF], 0xFF00 + zext16 0xFF, 12),
       (.ld_a_mc, [0xF2], 0xFF00 + zext16 (State.reset.get8 .c), 8)] := by decide

theorem test_meets_store_at_address :
    (Instr.ld_mc_a, [0xE2], 0xFF00 + zext16 (State.reset.get8 .c), 8) ∈
      [(Instr.ld_ma16_a 0xC000, [0xEA, loByte 0xC000, hiByte 0xC000], 0xC000, 16),
       (.ldh_ma8_a 0x40, [0xE0, 0x40], 0xFF00 + zext16 0x40, 12),
       (.ld_mc_a, [0xE2], 0xFF00 + zext16 (State.reset.get8 .c), 8)] := by decide

theorem test_meets_logical :
    ((AluOp.and, and, true) ∈ [(AluOp.and, and, true), (.xor, xor, false), (.or, or, false)]) ∧
    ((AluOp.xor, xor, false) ∈ [(AluOp.and, and, true), (.xor, xor, false), (.or, or, false)]) ∧
    ((AluOp.or, or, false) ∈ [(AluOp.and, and, true), (.xor, xor, false), (.or, or, false)]) := by simp

/-- 99 and 1, and the extremes. -/
theorem test_meets_bcd :
    ({ State.reset with a := 0x99 } : State).get8 .a = bcd 99 ∧ State.reset.srcValue (.n8 0x01) = bcd 1 ∧ 99 < 100 ∧
    State.reset.get8 .a = bcd 0 ∧ State.reset.srcValue (.n8 0x99) = bcd 99 := by decide

theorem test_meets_incdec_pair :
    (Instr.ofDec16 .sp, 0x0B + 16 * R16.sp.code, (-1 : Int)) ∈
      [(Instr.ofInc16 .sp, 0x03 + 16 * R16.sp.code, 1), (Instr.ofDec16 .sp, 0x0B + 16 * R16.sp.code, -1)] := by decide

/-- A taken and an untaken condition, at reset (Z = 0, C = 0). -/
theorem test_meets_conditions :
    State.reset.holds .nz = true ∧ State.reset.holds .nc = true ∧ State.reset.holds .z = false ∧
    State.reset.holds .c = false := by decide

theorem test_meets_jump :
    (Instr.ofJp .z 0x0150, [0xC2 + 8 * Cc.z.code, loByte 0x0150, hiByte 0x0150], State.reset.holds .z, (0x0150 : Word),
      if State.reset.holds .z then 16 else 12) ∈
      [(Instr.jp_a16 0x0150, [0xC3, loByte 0x0150, hiByte 0x0150], true, 0x0150, 16),
       (.jp_hl, [0xE9], true, State.reset.get16 .hl, 4),
       (.ofJp .z 0x0150, [0xC2 + 8 * Cc.z.code, loByte 0x0150, hiByte 0x0150], State.reset.holds .z, 0x0150,
        if State.reset.holds .z then 16 else 12)] := by decide

theorem test_meets_relative_jump :
    (Instr.jr_e8 0x80, [0x18, 0x80], true, 12) ∈
      [(Instr.jr_e8 0x80, [0x18, 0x80], true, 12),
       (.ofJr .c 0x80, [0x20 + 8 * Cc.c.code, 0x80], State.reset.holds .c, if State.reset.holds .c then 12 else 8)] := by
  decide

/-- RST $38, and CALL NZ taken. -/
theorem test_meets_call :
    (Instr.ofRst 7, [0xC7 + 8 * BitVec.ofNat 8 (7 : Fin 8).val], (BitVec.ofNat 16 (8 * (7 : Fin 8).val) : Word), 16) ∈
      [(Instr.call_a16 0x2000, [0xCD, loByte 0x2000, hiByte 0x2000], 0x2000, 24),
       (.ofRst 7, [0xC7 + 8 * BitVec.ofNat 8 (7 : Fin 8).val], BitVec.ofNat 16 (8 * (7 : Fin 8).val), 16)] ++
      (if State.reset.holds .nz then
        [(Instr.ofCall .nz 0x2000, [0xC4 + 8 * Cc.nz.code, loByte 0x2000, hiByte 0x2000], 0x2000, 24)]
       else []) := by decide

theorem test_meets_return :
    (Instr.ofRet .nc, 0xC0 + 8 * Cc.nc.code, State.reset.ime, 20) ∈
      [(Instr.ret, 0xC9, State.reset.ime, 16), (.reti, 0xD9, true, 16)] ++
      (if State.reset.holds .nc then [(Instr.ofRet .nc, 0xC0 + 8 * Cc.nc.code, State.reset.ime, 20)] else []) := by decide

theorem test_meets_accumulator_rotates :
    (RotOp.rr, Instr.rra) ∈ [(RotOp.rlc, Instr.rlca), (.rrc, .rrca), (.rl, .rla), (.rr, .rra)] := by decide

theorem test_meets_res_and_set :
    (Instr.ofSet 7 .mhl, (0xC0 : Byte), true) ∈ [(Instr.ofRes 7 .mhl, 0x80, false), (Instr.ofSet 7 .mhl, 0xC0, true)] := by
  decide

theorem test_meets_undefined_marker : Instr.undefinedByte .undefined_fd = some 0xFD := by decide

/-- Both ways HALT can go. -/
theorem test_meets_halt :
    (State.reset.ime = false ∧ ({ State.reset with irq := 0x01 } : State).irq ≠ 0) ∧
    ¬(State.reset.ime = false ∧ State.reset.irq ≠ 0) := by decide

end Sys2Proof.Tests
end

section
/-! The register pairs as views of their bytes (10_state.md R22). -/

namespace Sys2Proof

/-- `hi:lo` is `hi * 256 + lo` (00_scope.md R8). -/
theorem toNat_ofBytes (hi lo : Byte) : (ofBytes hi lo).toNat = 256 * hi.toNat + lo.toNat := by
  calc (ofBytes hi lo).toNat
      = hi.toNat <<< 8 ||| lo.toNat := by simp (disch := omega) [ofBytes, Nat.mod_eq_of_lt]
    _ = hi.toNat <<< 8 + lo.toNat := (Nat.shiftLeft_add_eq_or_of_lt lo.isLt _).symm
    _ = 256 * hi.toNat + lo.toNat := by rw [Nat.shiftLeft_eq, Nat.mul_comm]

namespace Machine

@[simp] theorem RegPair.high_ne_f (p : RegPair) : p.high ≠ .f := by cases p <;> decide

@[simp] theorem RegPair.high_ne_low (p : RegPair) : p.high ≠ p.low := by cases p <;> decide

/-- AF is the one pair with F in it. -/
@[simp] theorem RegPair.low_eq_f (p : RegPair) : p.low = .f ↔ p = .af := by cases p <;> decide

/-- An 8-bit register read after a pair written. -/
theorem get8_set16 (s : State) (p : RegPair) (v : Word) (r : Reg8) :
    (s.set16 p v).get8 r =
      if r = p.low then (if p = .af then loByte v &&& 0xF0 else loByte v)
      else if r = p.high then hiByte v else s.get8 r := by
  simp [State.set16, get8_set8]

/-- Settles O19: a pair read is its bytes put together, and what a pair written holds is each register read after it. -/
theorem pairsAreViewsOfTheirBytes : Obligations.PairsAreViewsOfTheirBytes := by
  intro s p v
  obtain ⟨-, -, -, hsp, hpc, hmem, -⟩ := set16_spec s p v
  refine ⟨toNat_ofBytes _ _, ?high, ?low, fun r hhigh hlow => ?others, hsp, hpc, memKept_of_mem_eq hmem⟩
  case high => simp [get8_set16]
  case low => simp [get8_set16]
  case others => simp [get8_set16, hhigh, hlow]

end Machine

end Sys2Proof
end

section
/-! Which terms the maps give (30_encoding.md R85 to R88, R92): an instruction from every slot but the eleven undefined
opcodes, and never the marker of a lone 0xCB. -/

namespace Sys2Proof

/-! ## The rows of the maps hold instructions only -/

@[simp] theorem illFormed_ofLd (dst r : R8) : (Instr.ofLd dst r).illFormed = none := by cases dst <;> cases r <;> rfl
@[simp] theorem illFormed_ofAlu (op : AluOp) (r : R8) : (Instr.ofAlu op r).illFormed = none := by
  cases op <;> cases r <;> rfl
@[simp] theorem illFormed_ofAluImm (op : AluOp) (v : Byte) : (Instr.ofAluImm op v).illFormed = none := by cases op <;> rfl
@[simp] theorem illFormed_ofInc8 (r : R8) : (Instr.ofInc8 r).illFormed = none := by cases r <;> rfl
@[simp] theorem illFormed_ofDec8 (r : R8) : (Instr.ofDec8 r).illFormed = none := by cases r <;> rfl
@[simp] theorem illFormed_ofLdImm (r : R8) (v : Byte) : (Instr.ofLdImm r v).illFormed = none := by cases r <;> rfl
@[simp] theorem illFormed_ofLd16 (r : R16) (v : Word) : (Instr.ofLd16 r v).illFormed = none := by cases r <;> rfl
@[simp] theorem illFormed_ofAddHl (r : R16) : (Instr.ofAddHl r).illFormed = none := by cases r <;> rfl
@[simp] theorem illFormed_ofStoreA (r : R16Mem) : (Instr.ofStoreA r).illFormed = none := by cases r <;> rfl
@[simp] theorem illFormed_ofLoadA (r : R16Mem) : (Instr.ofLoadA r).illFormed = none := by cases r <;> rfl
@[simp] theorem illFormed_ofInc16 (r : R16) : (Instr.ofInc16 r).illFormed = none := by cases r <;> rfl
@[simp] theorem illFormed_ofDec16 (r : R16) : (Instr.ofDec16 r).illFormed = none := by cases r <;> rfl
@[simp] theorem illFormed_ofJr (cc : Cc) (v : Byte) : (Instr.ofJr cc v).illFormed = none := by cases cc <;> rfl
@[simp] theorem illFormed_ofRet (cc : Cc) : (Instr.ofRet cc).illFormed = none := by cases cc <;> rfl
@[simp] theorem illFormed_ofJp (cc : Cc) (v : Word) : (Instr.ofJp cc v).illFormed = none := by cases cc <;> rfl
@[simp] theorem illFormed_ofCall (cc : Cc) (v : Word) : (Instr.ofCall cc v).illFormed = none := by cases cc <;> rfl
@[simp] theorem illFormed_ofPush (r : R16Stk) : (Instr.ofPush r).illFormed = none := by cases r <;> rfl
@[simp] theorem illFormed_ofPop (r : R16Stk) : (Instr.ofPop r).illFormed = none := by cases r <;> rfl
@[simp] theorem illFormed_ofRst (n : Fin 8) : (Instr.ofRst n).illFormed = none := by revert n; decide
@[simp] theorem illFormed_ofRot (op : RotOp) (r : R8) : (Instr.ofRot op r).illFormed = none := by
  cases op <;> cases r <;> rfl
@[simp] theorem illFormed_ofBit (k : Fin 8) (r : R8) : (Instr.ofBit k r).illFormed = none := by
  cases r <;> revert k <;> decide
@[simp] theorem illFormed_ofRes (k : Fin 8) (r : R8) : (Instr.ofRes k r).illFormed = none := by
  cases r <;> revert k <;> decide
@[simp] theorem illFormed_ofSet (k : Fin 8) (r : R8) : (Instr.ofSet k r).illFormed = none := by
  cases r <;> revert k <;> decide

/-! ## The maps -/

/-- Every slot of the CB map is an instruction (R86). -/
@[simp] theorem illFormed_decodeCb (op2 : Byte) : (decodeCb op2).illFormed = none := by
  unfold decodeCb
  split <;> simp

/-- The quadrant x=0 has no undefined slot (R85). -/
@[simp] theorem illFormed_decodeX0 (op b1 : Byte) (n16 : Word) : (decodeX0 op b1 n16).illFormed = none := by
  simp only [decodeX0]
  split
  case h_1 =>
    split
    case h_5 => simp
    all_goals rfl
  case h_8 => split <;> rfl
  case h_5 | h_6 | h_7 => simp
  all_goals split <;> simp

/-- In the quadrant x=3 the opcode byte alone tells an undefined slot: no operand byte does, nor the byte after 0xCB. -/
theorem illFormed_decodeX3_operands (op b1 : Byte) (n16 : Word) :
    (decodeX3 op b1 n16).illFormed = (decodeX3 op 0 0).illFormed := by
  simp only [decodeX3]
  generalize fieldZ op = z, fieldY op = y, fieldP op = p
  split
  case h_2 | h_8 => rfl
  case h_7 => simp
  case h_1 => split <;> rfl
  case h_3 | h_5 =>
    split
    case h_5 => simp
    all_goals rfl
  case h_4 =>
    split
    case h_2 => simp
    all_goals rfl
  case h_6 =>
    split
    · rfl
    · split <;> rfl

/-- The same over the four quadrants. -/
theorem illFormed_decodeInstr_operands (op b1 b2 : Byte) :
    (decodeInstr op b1 b2).illFormed = (decodeInstr op 0 0).illFormed := by
  simp only [decodeInstr]
  split
  · simp
  · rfl
  · rfl
  · exact (illFormed_decodeX3_operands ..).trans (illFormed_decodeX3_operands ..).symm

/-- What a decoded term lacks of an instruction: it is the marker of its own undefined opcode (R87), or lacks nothing. Since
the operand bytes have no say in it, the 256 opcode bytes are all there is to look at. -/
theorem illFormed_decodeInstr (op b1 b2 : Byte) :
    (decodeInstr op b1 b2).illFormed = if op ∈ undefinedOpcodes then some (.undefinedSlot op) else none := by
  have byOpcode : ∀ op : Byte,
      (decodeInstr op 0 0).illFormed = if op ∈ undefinedOpcodes then some (.undefinedSlot op) else none := by decide
  exact (illFormed_decodeInstr_operands op b1 b2).trans (byOpcode op)

/-! ## The markers, as the check tells them -/

theorem illFormed_eq_undefinedSlot {i : Instr} {op : Byte} :
    i.illFormed = some (.undefinedSlot op) ↔ i.undefinedByte = some op := by
  unfold Instr.illFormed
  split <;> simp [*]

theorem isPrefix_iff {i : Instr} : i.isPrefix = true ↔ i = .prefix_cb := by
  unfold Instr.isPrefix
  split <;> simp_all

/-! ## The decoder is total -/

/-- With two bytes after it no opcode byte is cut short (R80). -/
theorem decode_cons_cons_cons (sl : StopLength) (op b1 b2 : Byte) (rest : List Byte) :
    decode sl (op :: b1 :: b2 :: rest) =
      .ok (decodeInstr op b1 b2,
        ((b1 :: b2 :: rest).drop (operandBytes op)).drop (if op = 0x10 then stopSkip sl else 0)) := by
  have hle : operandBytes op ≤ (b1 :: b2 :: rest).length := (Machine.operandBytes_le op).trans (by simp)
  simp only [decode, hle, if_true]
  split <;> rfl

theorem isPrefix_decodeInstr (op b1 b2 : Byte) : (decodeInstr op b1 b2).isPrefix = false := by
  rw [Bool.eq_false_iff, Ne, isPrefix_iff]
  intro hcb
  have h := illFormed_decodeInstr op b1 b2
  rw [hcb] at h
  split at h <;> cases h

theorem undefinedByte_decodeInstr (op b1 b2 : Byte) :
    (decodeInstr op b1 b2).undefinedByte = if op ∈ undefinedOpcodes then some op else none := by
  ext v
  rw [← illFormed_eq_undefinedSlot, illFormed_decodeInstr]
  split <;> simp

/-- Settles O3: the decoder answers, and the term it answers is told from the opcode byte as R87 and R88 say. -/
theorem everyOpcodeByteDecodes : Obligations.EveryOpcodeByteDecodes := fun sl op b1 b2 rest =>
  ⟨_, _, decode_cons_cons_cons sl op b1 b2 rest, isPrefix_decodeInstr op b1 b2, undefinedByte_decodeInstr op b1 b2⟩

end Sys2Proof
end

section
/-! The frame of a transition made of several operations, from the frames of its parts. -/

namespace Sys2Proof.Machine

/-- What the transition from `s` to `t` may change, SP and PC apart: the 8-bit registers and flags listed and the bytes of
memory at the addresses listed; the bus calls it makes are those listed. -/
structure Effect (regs : List Reg8) (flags : List Flag) (stored : List Word) (calls : List BusEvent) (s t : State) :
    Prop where
  regs : RegsKept regs s t
  flags : FlagsKept flags s t
  control : ControlKept s t
  memory : MemKeptOutside stored s t
  calls : Calls calls s t

theorem ControlKept.trans {s t u : State} (h : ControlKept s t) (h' : ControlKept t u) : ControlKept s u := by
  simp only [ControlKept] at *
  simp only [h', h, and_self]

theorem memKeptOutside_nil {s t : State} : MemKeptOutside [] s t ↔ MemKept s t := by
  simp [MemKeptOutside, MemKept]

theorem flagsKept_of_f_eq {s t : State} (h : t.f = s.f) (written : List Flag) : FlagsKept written s t := fun fl _ => by
  simp [State.getFlag, h]

namespace Effect

variable {regs regs' : List Reg8} {flags flags' : List Flag} {stored stored' : List Word} {calls calls' : List BusEvent}
  {s t u : State}

theorem refl (s : State) : Effect [] [] [] [] s s where
  regs _ _ _ := rfl
  flags _ _ := rfl
  control := ⟨rfl, rfl, rfl, rfl, rfl, rfl, rfl, rfl, rfl, rfl, rfl⟩
  memory _ _ := rfl
  calls := (calls_nil s s).2 ⟨rfl, rfl⟩

/-- One transition after another changes what either changes and makes the calls of both, in order. -/
theorem trans (h : Effect regs flags stored calls s t) (h' : Effect regs' flags' stored' calls' t u) :
    Effect (regs ++ regs') (flags ++ flags') (stored ++ stored') (calls ++ calls') s u where
  regs r hf hr := by
    rw [List.mem_append, not_or] at hr
    exact (h'.regs r hf hr.2).trans (h.regs r hf hr.1)
  flags fl hfl := by
    rw [List.mem_append, not_or] at hfl
    exact (h'.flags fl hfl.2).trans (h.flags fl hfl.1)
  control := h.control.trans h'.control
  memory a ha := by
    rw [List.mem_append, not_or] at ha
    exact (h'.memory a ha.2).trans (h.memory a ha.1)
  calls := h.calls.append h'.calls

/-- The count an instruction ends with is no part of its effect. -/
theorem withCycles (h : Effect regs flags stored calls s t) (total : Nat) :
    Effect regs flags stored calls s { t with cycles := total } :=
  ⟨h.regs, h.flags, h.control, h.memory, h.calls⟩

theorem onlyRegsChange (h : Effect regs flags [] calls s t) (hsp : t.sp = s.sp) (hpc : t.pc = s.pc) :
    OnlyRegsChange regs flags s t :=
  ⟨h.regs, h.flags, hsp, hpc, h.control, memKeptOutside_nil.1 h.memory⟩

theorem onlyR8Changes {r : R8} (h : Effect (r8Regs r) flags (s.r8Stored r) calls s t) (hsp : t.sp = s.sp)
    (hpc : t.pc = s.pc) : OnlyR8Changes r flags s t :=
  ⟨h.regs, h.flags, hsp, hpc, h.control, h.memory⟩

end Effect

/-! ## The effects of the shared operations -/

theorem memRead_effect (s : State) (a : Word) : Effect [] [] [] [.read a (s.answer 0 a)] s (s.memRead a).2 where
  regs r _ _ := by cases r <;> rfl
  flags := flagsKept_of_f_eq rfl _
  control := ⟨rfl, rfl, rfl, rfl, rfl, rfl, rfl, rfl, rfl, rfl, rfl⟩
  memory _ _ := rfl
  calls := memRead_calls s a

theorem memWrite_effect (s : State) (a : Word) (v : Byte) : Effect [] [] [a] [.write a v] s (s.memWrite a v) := by
  obtain ⟨-, hmem, hcontrol, hregs, hflags⟩ := memWrite_spec s a v
  exact ⟨hregs, hflags, hcontrol, hmem, memWrite_calls s a v⟩

theorem set8_effect (s : State) {r : Reg8} (hr : r ≠ .f) (v : Byte) : Effect [r] [] [] [] s (s.set8 r v) := by
  obtain ⟨hregs, hvalue, hcontrol⟩ := set8_spec s r v
  refine ⟨hregs, flagsKept_of_f_eq (hvalue hr).2 _, hcontrol, fun a _ => byteAt_of_mem_eq (set8_mem s r v) a, ?_⟩
  exact (calls_nil _ _).2 ⟨set8_bus s r v, set8_answers s r v⟩

theorem set16_effect (s : State) {p : RegPair} (hp : p ≠ .af) (v : Word) :
    Effect [p.high, p.low] [] [] [] s (s.set16 p v) :=
  (set8_effect s p.high_ne_f _).trans (set8_effect _ (p.low_eq_f.not.2 hp) _)

theorem setFlags_effect (s : State) (x : Flags) : Effect [] [.z, .n, .h, .c] [] [] s (s.setFlags x) where
  regs := (setFlags_spec s x).1
  flags fl hfl := absurd (by cases fl <;> decide) hfl
  control := (setFlags_spec s x).2.1
  memory _ _ := rfl
  calls := (calls_nil _ _).2 ⟨rfl, rfl⟩

theorem setSp_effect (s : State) (v : Word) : Effect [] [] [] [] s { s with sp := v } where
  regs r _ _ := by cases r <;> rfl
  flags := flagsKept_of_f_eq rfl _
  control := ⟨rfl, rfl, rfl, rfl, rfl, rfl, rfl, rfl, rfl, rfl, rfl⟩
  memory _ _ := rfl
  calls := (calls_nil _ _).2 ⟨rfl, rfl⟩

/-- Reading an r8 operand changes no register and no byte; it makes the operand's bus calls (30_encoding.md R83). -/
theorem readR8_effect (s : State) (r : R8) : Effect [] [] [] (s.r8Reads r) s (s.readR8 r).2 := by
  cases r with
  | mhl => exact memRead_effect s (s.get16 .hl)
  | b | c | d | e | h | l | a => exact Effect.refl s

theorem writeR8_effect (s : State) (r : R8) (v : Byte) :
    Effect (r8Regs r) [] (s.r8Stored r) (s.r8Writes r v) s (s.writeR8 r v) := by
  obtain ⟨-, hregs, hmem, hcontrol, hf, -, -, hcalls⟩ := writeR8_spec s r v
  exact ⟨hregs, flagsKept_of_f_eq hf _, hcontrol, hmem, hcalls⟩

/-- An r8 operand read and then one written: the address of either is HL of before. -/
theorem readR8_writeR8_effect (s : State) (src dst : R8) (v : Byte) :
    Effect (r8Regs dst) [] (s.r8Stored dst) (s.r8Reads src ++ s.r8Writes dst v) s ((s.readR8 src).2.writeR8 dst v) := by
  have h := (readR8_effect s src).trans (writeR8_effect (s.readR8 src).2 dst v)
  have hhl : (s.readR8 src).2.get16 .hl = s.get16 .hl := by
    rw [readR8_spec]
    rfl
  simpa only [State.r8Stored, State.r8Writes, hhl, List.nil_append] using h

/-- Writing an r16 operand: SP is no 8-bit register, so LD SP lists none. -/
theorem setR16_effect (s : State) (p : R16) (v : Word) : Effect (r16Regs p) [] [] [] s (s.setR16 p v) := by
  cases p with
  | bc => exact set16_effect s (p := .bc) (by decide) v
  | de => exact set16_effect s (p := .de) (by decide) v
  | hl => exact set16_effect s (p := .hl) (by decide) v
  | sp => exact setSp_effect s v

/-! ## The values the shared operations leave -/

theorem getR16_setR16 (s : State) (p : R16) (v : Word) : (s.setR16 p v).getR16 p = v := by
  cases p with
  | sp => rfl
  | bc | de | hl => exact get16_set16 s _ v

theorem setR16_sp (s : State) {p : R16} (hp : p ≠ .sp) (v : Word) : (s.setR16 p v).sp = s.sp := by
  cases p with
  | sp => exact absurd rfl hp
  | bc | de | hl => rfl

theorem setR16_pc (s : State) (p : R16) (v : Word) : (s.setR16 p v).pc = s.pc := by cases p <;> rfl

/-- HL after an access through an r16mem operand (30_encoding.md R90). -/
def State.hlMoved (s : State) : R16Mem → Word
  | .bc | .de => s.get16 .hl
  | .hli => s.get16 .hl + 1
  | .hld => s.get16 .hl - 1

theorem set16_hl_get16 (s : State) : s.set16 .hl (s.get16 .hl) = s := by
  simp only [State.set16, State.get16, hiByte_ofBytes, loByte_ofBytes]
  rfl

/-- In all four forms the pointer update, after an access at the address `s` gives, is a write of HL. -/
theorem movePointer_memAddr {s t : State} (hhl : t.get16 .hl = s.get16 .hl) (m : R16Mem) :
    t.movePointer m (s.memAddr m) = t.set16 .hl (s.hlMoved m) := by
  cases m with
  | bc | de => exact (hhl ▸ set16_hl_get16 t).symm
  | hli | hld => rfl

/-- A signed displacement added to a 16-bit value wraps mod 65536 (00_scope.md R8). -/
theorem toNat_add_sext16 (w : Word) (v : Byte) :
    ((w + sext16 v).toNat : Int) = ((w.toNat : Int) + v.toInt) % 65536 := by
  have hsext : ((sext16 v).toNat : Int) = v.toInt % 65536 := by
    simp only [sext16, BitVec.signExtend, BitVec.toNat_ofInt]
    omega
  rw [BitVec.toNat_add]
  omega

end Sys2Proof.Machine
end

section
/-! Loads (41_load.md): for each shape of load the state it ends in, then what that state holds. -/

namespace Sys2Proof.Machine

/-! ## The arms of exec, by operand -/

theorem exec_ofLd {dst src : R8} (h : ¬(dst = .mhl ∧ src = .mhl)) (s : State) :
    exec (.ofLd dst src) s = ldR8 dst src (if dst = .mhl ∨ src = .mhl then 8 else 4) s := by
  cases dst <;> cases src
  case mhl.mhl => exact absurd ⟨rfl, rfl⟩ h
  all_goals rfl

theorem exec_ofLdImm (dst : R8) (n8 : Byte) (s : State) :
    exec (.ofLdImm dst n8) s = (s.writeR8 dst n8).done (r8Total dst 8 12) := by cases dst <;> rfl

theorem exec_ofLoadA (m : R16Mem) (s : State) : exec (.ofLoadA m) s = loadA m 8 s := by cases m <;> rfl

theorem exec_ofStoreA (m : R16Mem) (s : State) : exec (.ofStoreA m) s = storeA m 8 s := by cases m <;> rfl

theorem exec_ofLd16 (p : R16) (n16 : Word) (s : State) : exec (.ofLd16 p n16) s = (s.setR16 p n16).done 12 := by
  cases p <;> rfl

/-! ## The bytes of the instructions (30_encoding.md R85) -/

theorem encodedAs_ofLd {dst src : R8} (h : ¬(dst = .mhl ∧ src = .mhl)) :
    (Instr.ofLd dst src).EncodedAs [0x40 + 8 * dst.code + src.code] := by
  intro sl
  cases dst <;> cases src
  case mhl.mhl => exact absurd ⟨rfl, rfl⟩ h
  all_goals rfl

theorem encodedAs_ofLdImm (dst : R8) (n8 : Byte) : (Instr.ofLdImm dst n8).EncodedAs [0x06 + 8 * dst.code, n8] := by
  intro sl
  cases dst <;> rfl

theorem encodedAs_ofLoadA (m : R16Mem) : (Instr.ofLoadA m).EncodedAs [0x0A + 16 * m.code] := by
  intro sl
  cases m <;> rfl

theorem encodedAs_ofStoreA (m : R16Mem) : (Instr.ofStoreA m).EncodedAs [0x02 + 16 * m.code] := by
  intro sl
  cases m <;> rfl

theorem encodedAs_ofLd16 (p : R16) (n16 : Word) :
    (Instr.ofLd16 p n16).EncodedAs [0x01 + 16 * p.code, loByte n16, hiByte n16] := by
  intro sl
  cases p <;> rfl

/-! ## Loads between r8 operands -/

theorem ldR8_eq (dst src : R8) (total : Nat) (s : State) :
    ldR8 dst src total s = ((s.readR8 src).2.writeR8 dst (s.r8Value src)).done total := by
  simp only [ldR8, readR8_spec]

/-- Settles O20: the operand is read, which changes no register, and then written with its value. -/
theorem loadCopiesTheOperand : Obligations.LoadCopiesTheOperand := by
  intro dst src s hne
  obtain ⟨hvalue, -, -, -, -, hsp, hpc, -⟩ := writeR8_spec (s.readR8 src).2 dst (s.r8Value src)
  have heffect := readR8_writeR8_effect s src dst (s.r8Value src)
  have hread := readR8_spec s src
  exact ⟨encodedAs_ofLd hne, _, (exec_ofLd hne s).trans (ldR8_eq ..), hvalue,
    (heffect.withCycles _).onlyR8Changes (hsp.trans (by rw [hread])) (hpc.trans (by rw [hread])), rfl, heffect.calls⟩

/-- Settles O21: the instruction is one write of the operand. -/
theorem loadImmediateByte : Obligations.LoadImmediateByte := by
  intro dst n8 s
  obtain ⟨hvalue, -, -, -, -, hsp, hpc, -⟩ := writeR8_spec s dst n8
  have heffect := (writeR8_effect s dst n8).withCycles (r8Total dst 8 12)
  exact ⟨encodedAs_ofLdImm dst n8, _, exec_ofLdImm dst n8 s, hvalue, heffect.onlyR8Changes hsp hpc, rfl, heffect.calls⟩

/-! ## Loads of A -/

theorem loadA_eq (m : R16Mem) (total : Nat) (s : State) :
    loadA m total s =
      (((s.memRead (s.memAddr m)).2.set8 .a (s.answer 0 (s.memAddr m))).set16 .hl (s.hlMoved m)).done total :=
  congrArg (State.done · total) (movePointer_memAddr rfl m)

/-- A byte read and put in A. -/
theorem memRead_set8_a_effect (s : State) (addr : Word) :
    Effect [.a] [] [] [.read addr (s.answer 0 addr)] s ((s.memRead addr).2.set8 .a (s.answer 0 addr)) :=
  (memRead_effect s addr).trans (set8_effect _ (by decide) _)

/-- Settles O22: A is loaded, then HL written with what the operand's form makes of it. -/
theorem loadAccumulatorThroughPointer : Obligations.LoadAccumulatorThroughPointer := by
  intro m s
  let s1 := (s.memRead (s.memAddr m)).2.set8 .a (s.answer 0 (s.memAddr m))
  have heffect := ((memRead_set8_a_effect s (s.memAddr m)).trans
    (set16_effect s1 (p := .hl) (by decide) (s.hlMoved m))).withCycles 8
  exact ⟨encodedAs_ofLoadA m, _, (exec_ofLoadA m s).trans (loadA_eq m 8 s), rfl, get16_set16 s1 .hl (s.hlMoved m),
    heffect.onlyRegsChange rfl rfl, rfl, heffect.calls⟩

/-- Settles O24: the three instructions are one load of A, from three addresses. -/
theorem loadAccumulatorFromAddress : Obligations.LoadAccumulatorFromAddress := by
  intro a16 a8 s i bytes addr total hmem
  obtain ⟨hbytes, hexec⟩ : i.EncodedAs bytes ∧ exec i s = loadAAt addr total s := by
    simp only [List.mem_cons, List.not_mem_nil, or_false, Prod.mk.injEq] at hmem
    obtain ⟨rfl, rfl, rfl, rfl⟩ | ⟨rfl, rfl, rfl, rfl⟩ | ⟨rfl, rfl, rfl, rfl⟩ := hmem
    all_goals exact ⟨fun _ => rfl, rfl⟩
  have heffect := (memRead_set8_a_effect s addr).withCycles total
  exact ⟨hbytes, _, hexec, rfl, heffect.onlyRegsChange rfl rfl, rfl, heffect.calls⟩

/-! ## Stores of A -/

theorem storeA_eq (m : R16Mem) (total : Nat) (s : State) :
    storeA m total s = ((s.memWrite (s.memAddr m) s.a).set16 .hl (s.hlMoved m)).done total :=
  congrArg (State.done · total) (movePointer_memAddr rfl m)

/-- Settles O23: A is stored, then HL written with what the operand's form makes of it. -/
theorem storeAccumulatorThroughPointer : Obligations.StoreAccumulatorThroughPointer := by
  intro m s
  let s1 := s.memWrite (s.memAddr m) s.a
  have heffect := ((memWrite_effect s (s.memAddr m) s.a).trans
    (set16_effect s1 (p := .hl) (by decide) (s.hlMoved m))).withCycles 8
  exact ⟨encodedAs_ofStoreA m, _, (exec_ofStoreA m s).trans (storeA_eq m 8 s), (memWrite_spec s (s.memAddr m) s.a).1,
    heffect.memory, get16_set16 s1 .hl (s.hlMoved m), heffect.regs, heffect.flags, rfl, rfl, heffect.control, rfl,
    heffect.calls⟩

/-- Settles O25: the three instructions are one store of A, at three addresses. -/
theorem storeAccumulatorAtAddress : Obligations.StoreAccumulatorAtAddress := by
  intro a16 a8 s i bytes addr total hmem
  obtain ⟨hbytes, hexec⟩ : i.EncodedAs bytes ∧ exec i s = storeAAt addr total s := by
    simp only [List.mem_cons, List.not_mem_nil, or_false, Prod.mk.injEq] at hmem
    obtain ⟨rfl, rfl, rfl, rfl⟩ | ⟨rfl, rfl, rfl, rfl⟩ | ⟨rfl, rfl, rfl, rfl⟩ := hmem
    all_goals exact ⟨fun _ => rfl, rfl⟩
  have heffect := (memWrite_effect s addr s.a).withCycles total
  exact ⟨hbytes, _, hexec, (memWrite_spec s addr s.a).1, heffect.memory, heffect.regs, heffect.flags, rfl, rfl,
    heffect.control, rfl, heffect.calls⟩

/-! ## 16-bit loads and stores -/

/-- Settles O26: the instruction is one write of the operand. -/
theorem loadPairImmediate : Obligations.LoadPairImmediate := by
  intro p n16 s
  have heffect := (setR16_effect s p n16).withCycles 12
  exact ⟨encodedAs_ofLd16 p n16, _, exec_ofLd16 p n16 s, getR16_setR16 s p n16, fun hp => setR16_sp s hp n16,
    heffect.regs, heffect.flags, setR16_pc s p n16, heffect.control, memKeptOutside_nil.1 heffect.memory, rfl,
    heffect.calls⟩

/-- Settles O27: HL is written with the sum, then F with the four flags. -/
theorem loadHlFromSpPlusDisplacement : Obligations.LoadHlFromSpPlusDisplacement := by
  intro e8 s
  let s1 := s.set16 .hl (s.sp + sext16 e8)
  let x := spDispFlags s.sp e8
  have heffect := ((set16_effect s (p := .hl) (by decide) _).trans (setFlags_effect s1 x)).withCycles 12
  refine ⟨fun _ => rfl, _, rfl, ?sum, getFlag_setFlags_z s1 x, getFlag_setFlags_n s1 x, getFlag_setFlags_h s1 x,
    getFlag_setFlags_c s1 x, heffect.onlyRegsChange rfl rfl, rfl, heffect.calls⟩
  case sum =>
    have hhl : s1.get16 .hl = s.sp + sext16 e8 := get16_set16 s .hl _
    calc ((s1.get16 .hl).toNat : Int)
        = (s.sp + sext16 e8).toNat := by rw [hhl]
      _ = (s.sp.toNat + e8.toInt) % 65536 := toNat_add_sext16 s.sp e8

/-- Settles O28: HL read is its two bytes put together (10_state.md R22), and SP is no part of what the frame lists. -/
theorem loadSpFromHl : Obligations.LoadSpFromHl := by
  intro s
  have heffect := (setSp_effect s (s.get16 .hl)).withCycles 8
  exact ⟨fun _ => rfl, _, rfl, toNat_ofBytes s.h s.l, heffect.regs, heffect.flags, rfl, heffect.control,
    memKeptOutside_nil.1 heffect.memory, rfl, heffect.calls⟩

/-- Settles O29: two stores at addresses that differ even where the second wraps to 0x0000. -/
theorem storeSpAtAddress : Obligations.StoreSpAtAddress := by
  intro a16 s
  let s1 := s.memWrite a16 (loByte s.sp)
  have hne : a16 ≠ a16 + 1 := by bv_omega
  have heffect := ((memWrite_effect s a16 (loByte s.sp)).trans (memWrite_effect s1 (a16 + 1) (hiByte s.sp))).withCycles 20
  refine ⟨fun _ => rfl, _, rfl, ?low, ?high, heffect.memory, heffect.regs, heffect.flags, rfl, rfl, heffect.control, rfl,
    heffect.calls⟩
  case low =>
    calc (s1.memWrite (a16 + 1) (hiByte s.sp)).byteAt a16
        = s1.byteAt a16 := by rw [byteAt_memWrite, if_neg hne]
      _ = loByte s.sp := (memWrite_spec s a16 (loByte s.sp)).1
  case high => exact (memWrite_spec s1 (a16 + 1) (hiByte s.sp)).1

end Sys2Proof.Machine
end

section
/-! Arithmetic (42_arithmetic.md): the state an ALU instruction ends in, once for all whose value goes to A, and what each
operation's value and flags are as numbers. -/

namespace Sys2Proof.Machine

/-! ## The arms of exec and the bytes (30_encoding.md R85) -/

/-- CP has arms of its own: its value goes nowhere. -/
theorem exec_aluInstr {op : AluOp} (hop : op ≠ .cp) (x : AluSrc) (s : State) :
    exec (aluInstr op x) s = aluA op x (srcTotal x) s := by
  cases x with
  | r8 r =>
    cases op
    case cp => exact absurd rfl hop
    all_goals cases r <;> rfl
  | n8 v =>
    cases op
    case cp => exact absurd rfl hop
    all_goals rfl

theorem exec_ofAddHl (p : R16) (s : State) : exec (.ofAddHl p) s = addHl p 8 s := by cases p <;> rfl

theorem encodedAs_aluInstr (op : AluOp) (x : AluSrc) : (aluInstr op x).EncodedAs (aluBytes op x) := by
  intro sl
  cases x with
  | r8 r => cases op <;> cases r <;> rfl
  | n8 v => cases op <;> rfl

theorem encodedAs_ofAddHl (p : R16) : (Instr.ofAddHl p).EncodedAs [0x09 + 16 * p.code] := by
  intro sl
  cases p <;> rfl

/-! ## The operations on A and X -/

/-- Reading X changes no register and no byte; it makes the operand's bus calls (R140). -/
theorem readSrc_effect (s : State) (x : AluSrc) : Effect [] [] [] (s.srcReads x) s (s.readSrc x).2 := by
  cases x with
  | r8 r => exact readR8_effect s r
  | n8 v => exact Effect.refl s

theorem readSrc_sp (s : State) (x : AluSrc) : (s.readSrc x).2.sp = s.sp := by rw [readSrc_spec]

theorem readSrc_pc (s : State) (x : AluSrc) : (s.readSrc x).2.pc = s.pc := by rw [readSrc_spec]

/-- The flags read after they are written. -/
theorem flags_setFlags (s : State) (x : Flags) : (s.setFlags x).flags = x := by simp [State.flags]

theorem aluA_eq (op : AluOp) (x : AluSrc) (total : Nat) (s : State) :
    aluA op x total s =
      (((s.readSrc x).2.set8 .a (alu op (s.get8 .a) (s.srcValue x) (s.getFlag .c)).value).setFlags
        (alu op (s.get8 .a) (s.srcValue x) (s.getFlag .c)).flags).done total := by
  simp only [aluA, readSrc_spec]
  rfl

/-- Z is 1 where the value is 0; for CP that is a comparison, and its value goes nowhere. -/
theorem alu_flags_z {op : AluOp} (hop : op ≠ .cp) (a x : Byte) (c : Bool) :
    (alu op a x c).flags.z = decide ((alu op a x c).value = 0) := by
  cases op
  case cp => exact absurd rfl hop
  all_goals rfl

/-- An ALU instruction whose value goes to A: X is read, then A and the four flags are written with the operation's value
and flags. -/
theorem exec_aluInstr_spec {op : AluOp} (hop : op ≠ .cp) (x : AluSrc) (s : State) :
    ∃ t, exec (aluInstr op x) s = .next t ∧
      t.get8 .a = (alu op (s.get8 .a) (s.srcValue x) (s.getFlag .c)).value ∧
      t.flags = (alu op (s.get8 .a) (s.srcValue x) (s.getFlag .c)).flags ∧
      t.getFlag .z = decide (t.get8 .a = 0) ∧
      OnlyRegsChange [.a] [.z, .n, .h, .c] s t ∧ t.cycles = srcTotal x ∧ Calls (s.srcReads x) s t := by
  let r := alu op (s.get8 .a) (s.srcValue x) (s.getFlag .c)
  let s1 := (s.readSrc x).2
  let s2 := s1.set8 .a r.value
  have heffect := (((readSrc_effect s x).trans (set8_effect s1 (r := .a) (by decide) r.value)).trans
    (setFlags_effect s2 r.flags)).withCycles (srcTotal x)
  refine ⟨_, (exec_aluInstr hop x s).trans (aluA_eq ..), rfl, ?flags, ?zero,
    heffect.onlyRegsChange (readSrc_sp s x) (readSrc_pc s x), rfl, ?calls⟩
  case calls => simpa only [List.append_nil] using heffect.calls
  case flags => exact flags_setFlags s2 r.flags
  case zero => exact (getFlag_setFlags_z s2 r.flags).trans (alu_flags_z hop ..)

/-! ## Results as numbers -/

/-- A difference of bytes wraps mod 256 (00_scope.md R8). -/
theorem toNat_sub_byte (a x : Byte) : ((a - x).toNat : Int) = ((a.toNat : Int) - x.toNat) % 256 := by
  rw [BitVec.toNat_sub]
  omega

/-- SBC's value takes the borrow off too, mod 256 (R144). -/
theorem toNat_alu_sbc (a x : Byte) (c : Bool) :
    ((alu .sbc a x c).value.toNat : Int) = ((a.toNat : Int) - x.toNat - c.toNat) % 256 := by
  have hborrow : (BitVec.ofNat 8 c.toNat).toNat = c.toNat := by cases c <;> rfl
  calc ((a - x - BitVec.ofNat 8 c.toNat).toNat : Int)
      = (((a - x).toNat : Int) - c.toNat) % 256 := by rw [toNat_sub_byte, hborrow]
    _ = ((a.toNat : Int) - x.toNat - c.toNat) % 256 := by rw [toNat_sub_byte, Int.emod_sub_emod]

/-- Settles O30: the value is the sum as a byte; the model computes N, H and C as the rule writes them. -/
theorem addResultAndFlags : Obligations.AddResultAndFlags := by
  intro x s a v
  obtain ⟨t, hexec, ha, hflags, hz, hframe, hcycles, hcalls⟩ := exec_aluInstr_spec (op := .add) (by decide) x s
  have hsum : (t.get8 .a).toNat = (a + v) % 256 := by
    rw [ha]
    exact BitVec.toNat_ofNat ..
  exact ⟨encodedAs_aluInstr .add x, t, hexec, hsum, by simp [hz, ← hsum, BitVec.toNat_eq], congrArg Flags.n hflags,
    congrArg Flags.h hflags, congrArg Flags.c hflags, hframe, hcycles, hcalls⟩

/-- Settles O31: as ADD A,X, with the carry before as a number. -/
theorem addWithCarryResultAndFlags : Obligations.AddWithCarryResultAndFlags := by
  intro x s a v c
  obtain ⟨t, hexec, ha, hflags, hz, hframe, hcycles, hcalls⟩ := exec_aluInstr_spec (op := .adc) (by decide) x s
  have hcarry : (s.getFlag .c).toNat = c := Bool.cond_eq_ite ..
  have hsum : (t.get8 .a).toNat = (a + v + c) % 256 := by
    rw [ha, ← hcarry]
    exact BitVec.toNat_ofNat ..
  refine ⟨encodedAs_aluInstr .adc x, t, hexec, hsum, by simp [hz, ← hsum, BitVec.toNat_eq], congrArg Flags.n hflags,
    ?half, ?carry, hframe, hcycles, hcalls⟩
  case half => exact hcarry ▸ congrArg Flags.h hflags
  case carry => exact hcarry ▸ congrArg Flags.c hflags

/-- Settles O32: the value is the difference as a byte, and the borrows are comparisons of the operands. -/
theorem subtractResultAndFlags : Obligations.SubtractResultAndFlags := by
  intro x s a v
  obtain ⟨t, hexec, ha, hflags, hz, hframe, hcycles, hcalls⟩ := exec_aluInstr_spec (op := .sub) (by decide) x s
  have hdiff : ((t.get8 .a).toNat : Int) = ((a : Int) - v) % 256 := by
    rw [ha]
    exact toNat_sub_byte ..
  exact ⟨encodedAs_aluInstr .sub x, t, hexec, hdiff, by simp [hz, ← hdiff, BitVec.toNat_eq], congrArg Flags.n hflags,
    congrArg Flags.h hflags, congrArg Flags.c hflags, hframe, hcycles, hcalls⟩

/-- Settles O33: as SUB X, with the borrow before as a number. -/
theorem subtractWithCarryResultAndFlags : Obligations.SubtractWithCarryResultAndFlags := by
  intro x s a v c
  obtain ⟨t, hexec, ha, hflags, hz, hframe, hcycles, hcalls⟩ := exec_aluInstr_spec (op := .sbc) (by decide) x s
  have hcarry : (s.getFlag .c).toNat = c := Bool.cond_eq_ite ..
  have hdiff : ((t.get8 .a).toNat : Int) = ((a : Int) - v - c) % 256 := by
    rw [ha, ← hcarry]
    exact toNat_alu_sbc ..
  refine ⟨encodedAs_aluInstr .sbc x, t, hexec, hdiff, by simp [hz, ← hdiff, BitVec.toNat_eq], congrArg Flags.n hflags,
    ?half, ?borrow, hframe, hcycles, hcalls⟩
  case half => exact hcarry ▸ congrArg Flags.h hflags
  case borrow => exact hcarry ▸ congrArg Flags.c hflags

/-! ## ADD HL,rr and ADD SP,e8 -/

/-- A write of the flags that leaves all but those listed as they were. -/
theorem setFlags_effect_of_flagsKept {s : State} {x : Flags} {written : List Flag}
    (h : FlagsKept written s (s.setFlags x)) : Effect [] written [] [] s (s.setFlags x) :=
  { setFlags_effect s x with flags := h }

/-- Settles O36: HL is written with the sum, then F with the flag Z it had and three new ones. -/
theorem addToHlResultAndFlags : Obligations.AddToHlResultAndFlags := by
  intro p s hl v
  let s1 := s.set16 .hl (s.get16 .hl + s.getR16 p)
  let x := addHlFlags (s.get16 .hl) (s.getR16 p) s.flags
  have hkept : FlagsKept [.n, .h, .c] s1 (s1.setFlags x) := fun fl hfl => by
    cases fl with
    | z => exact getFlag_setFlags_z s1 x
    | n | h | c => exact absurd (by decide) hfl
  have heffect := ((set16_effect s (p := .hl) (by decide) _).trans (setFlags_effect_of_flagsKept hkept)).withCycles 8
  refine ⟨encodedAs_ofAddHl p, _, exec_ofAddHl p s, ?sum, getFlag_setFlags_n s1 x, getFlag_setFlags_h s1 x,
    getFlag_setFlags_c s1 x, heffect.onlyRegsChange rfl rfl, rfl, heffect.calls⟩
  case sum =>
    calc (s1.get16 .hl).toNat
        = (s.get16 .hl + s.getR16 p).toNat := congrArg BitVec.toNat (get16_set16 s .hl _)
      _ = (hl + v) % 65536 := BitVec.toNat_add ..

/-- Settles O37: SP is written with the signed sum, then F with the flags of the unsigned one. -/
theorem addDisplacementToSp : Obligations.AddDisplacementToSp := by
  intro e8 s
  let s1 : State := { s with sp := s.sp + sext16 e8 }
  let x := spDispFlags s.sp e8
  have heffect := ((setSp_effect s (s.sp + sext16 e8)).trans (setFlags_effect s1 x)).withCycles 16
  exact ⟨fun _ => rfl, _, rfl, toNat_add_sext16 s.sp e8, getFlag_setFlags_z s1 x, getFlag_setFlags_n s1 x,
    getFlag_setFlags_h s1 x, getFlag_setFlags_c s1 x, heffect.regs, rfl, heffect.control,
    memKeptOutside_nil.1 heffect.memory, rfl, heffect.calls⟩

end Sys2Proof.Machine
end

section
/-! Logic (43_logical.md): AND, XOR and OR as ALU instructions whose value goes to A, and the three instructions that write
some of the flags and leave the others. -/

namespace Sys2Proof.Machine

/-! ## AND, XOR and OR -/

/-- A bit of the value is the operation on the two bits, Z tells a zero value, and N, H and C do not depend on the operands
(R160 to R162). -/
theorem alu_logical {op : AluOp} {bit : Bool → Bool → Bool} {half : Bool}
    (hop : (op, bit, half) ∈ [(AluOp.and, and, true), (.xor, xor, false), (.or, or, false)]) (a x : Byte) (c : Bool) :
    op ≠ .cp ∧ (∀ k, (alu op a x c).value.getLsbD k = bit (a.getLsbD k) (x.getLsbD k)) ∧
    (alu op a x c).flags = { z := (alu op a x c).value == 0, n := false, h := half, c := false } := by
  simp only [List.mem_cons, List.not_mem_nil, or_false, Prod.mk.injEq] at hop
  obtain ⟨rfl, rfl, rfl⟩ | ⟨rfl, rfl, rfl⟩ | ⟨rfl, rfl, rfl⟩ := hop
  · exact ⟨by decide, fun _ => BitVec.getLsbD_and, rfl⟩
  · exact ⟨by decide, fun _ => BitVec.getLsbD_xor, rfl⟩
  · exact ⟨by decide, fun _ => BitVec.getLsbD_or, rfl⟩

/-- Settles O34: A and the flags are those of the operation, and the rest is any ALU instruction's. -/
theorem logicalResultAndFlags : Obligations.LogicalResultAndFlags := by
  intro op bit half x s hop
  obtain ⟨hne, hbits, hvalues⟩ := alu_logical hop (s.get8 .a) (s.srcValue x) (s.getFlag .c)
  obtain ⟨t, hexec, ha, hflags, hz, hframe, hcycles, hcalls⟩ := exec_aluInstr_spec hne x s
  rw [hvalues] at hflags
  exact ⟨encodedAs_aluInstr op x, t, hexec, fun k _ => ha ▸ hbits k, hz, congrArg Flags.n hflags,
    congrArg Flags.h hflags, congrArg Flags.c hflags, hframe, hcycles, hcalls⟩

/-! ## CPL, SCF and CCF -/

/-- A write of the flags with the Z they had. -/
theorem setFlags_effect_of_z_eq {s : State} {x : Flags} (hz : x.z = s.getFlag .z) :
    Effect [] [.n, .h, .c] [] [] s (s.setFlags x) :=
  setFlags_effect_of_flagsKept fun fl hfl => by
    cases fl with
    | z => exact (getFlag_setFlags_z s x).trans hz
    | n | h | c => exact absurd (by decide) hfl

/-- A write of the flags with the Z and C they had. -/
theorem setFlags_effect_of_z_eq_of_c_eq {s : State} {x : Flags} (hz : x.z = s.getFlag .z) (hc : x.c = s.getFlag .c) :
    Effect [] [.n, .h] [] [] s (s.setFlags x) :=
  setFlags_effect_of_flagsKept fun fl hfl => by
    cases fl with
    | z => exact (getFlag_setFlags_z s x).trans hz
    | c => exact (getFlag_setFlags_c s x).trans hc
    | n | h => exact absurd (by decide) hfl

/-- CPL (R163): the complement of a byte is 0xFF less it, and Z keeps its value whatever A becomes. -/
theorem exec_cpl_spec (s : State) :
    ∃ t, exec .cpl s = .next t ∧
      (t.get8 .a).toNat = 0xFF - (s.get8 .a).toNat ∧ t.getFlag .n = true ∧ t.getFlag .h = true ∧
      OnlyRegsChange [.a] [.n, .h] s t ∧ t.cycles = 4 ∧ Calls [] s t := by
  let s1 := s.set8 .a (~~~s.a)
  let x : Flags := { s.flags with n := true, h := true }
  have heffect := ((set8_effect s (r := .a) (by decide) (~~~s.a)).trans
    (setFlags_effect_of_z_eq_of_c_eq (s := s1) (x := x) rfl rfl)).withCycles 4
  exact ⟨_, rfl, BitVec.toNat_not, getFlag_setFlags_n s1 x, getFlag_setFlags_h s1 x, heffect.onlyRegsChange rfl rfl, rfl,
    heffect.calls⟩

/-- SCF and CCF (R164, R165) are one write of the flags, with Z as it was, N and H cleared and a carry of their own. -/
theorem setCarry_spec (s : State) (carry : Bool) :
    ∃ t, (s.setFlags { s.flags with n := false, h := false, c := carry }).done 4 = .next t ∧
      t.getFlag .n = false ∧ t.getFlag .h = false ∧ t.getFlag .c = carry ∧
      OnlyRegsChange [] [.n, .h, .c] s t ∧ t.cycles = 4 ∧ Calls [] s t := by
  let x : Flags := { s.flags with n := false, h := false, c := carry }
  have heffect := (setFlags_effect_of_z_eq (s := s) (x := x) rfl).withCycles 4
  exact ⟨_, rfl, getFlag_setFlags_n s x, getFlag_setFlags_h s x, getFlag_setFlags_c s x, heffect.onlyRegsChange rfl rfl,
    rfl, heffect.calls⟩

/-- Settles O40: CPL by its own lemma, SCF and CCF as the two carries of one. -/
theorem complementAndCarryFlag : Obligations.ComplementAndCarryFlag := by
  intro s
  refine ⟨⟨fun _ => rfl, exec_cpl_spec s⟩, ⟨fun _ => rfl, setCarry_spec s true⟩, ⟨fun _ => rfl, ?ccf⟩⟩
  case ccf =>
    rw [beq_false]
    exact setCarry_spec s (!s.getFlag .c)

end Sys2Proof.Machine
end

section
/-! Compare (44_compare.md): CP reads its operand as the other ALU instructions do, and writes the flags alone. -/

namespace Sys2Proof.Machine

theorem exec_aluInstr_cp (x : AluSrc) (s : State) : exec (aluInstr .cp x) s = cpA x (srcTotal x) s := by
  cases x with
  | r8 r => cases r <;> rfl
  | n8 v => rfl

theorem cpA_eq (x : AluSrc) (total : Nat) (s : State) :
    cpA x total s =
      ((s.readSrc x).2.setFlags (alu .cp (s.get8 .a) (s.srcValue x) (s.getFlag .c)).flags).done total := by
  simp only [cpA, readSrc_spec]
  rfl

/-- CP's Z compares the operands themselves, so it is 1 where they are equal as numbers (R180). -/
theorem alu_cp_flags_z (a x : Byte) (c : Bool) : (alu .cp a x c).flags.z = decide (a.toNat = x.toNat) :=
  decide_eq_decide.mpr BitVec.toNat_inj.symm

/-- Settles O35: X is read, then the four flags are written with the comparisons of the operands. -/
theorem compareSetsFlagsOnly : Obligations.CompareSetsFlagsOnly := by
  intro x s a v
  let r := alu .cp (s.get8 .a) (s.srcValue x) (s.getFlag .c)
  let s1 := (s.readSrc x).2
  have heffect := ((readSrc_effect s x).trans (setFlags_effect s1 r.flags)).withCycles (srcTotal x)
  refine ⟨encodedAs_aluInstr .cp x, _, (exec_aluInstr_cp x s).trans (cpA_eq ..), ?zero, getFlag_setFlags_n s1 r.flags,
    getFlag_setFlags_h s1 r.flags, getFlag_setFlags_c s1 r.flags,
    heffect.onlyRegsChange (readSrc_sp s x) (readSrc_pc s x), rfl, ?calls⟩
  case zero => exact (getFlag_setFlags_z s1 r.flags).trans (alu_cp_flags_z ..)
  case calls => simpa only [List.append_nil] using heffect.calls

end Sys2Proof.Machine
end

section
/-! Increment and decrement (45_incdec.md): an r8 operand read and written back with flags, once for INC and DEC; then the
pairs, whose instructions are one write of the operand. -/

namespace Sys2Proof.Machine

/-! ## The arms of exec and the bytes (30_encoding.md R85) -/

theorem exec_ofInc8 (r : R8) (s : State) : exec (.ofInc8 r) s = incR8 r (r8Total r 4 12) s := by cases r <;> rfl

theorem exec_ofDec8 (r : R8) (s : State) : exec (.ofDec8 r) s = decR8 r (r8Total r 4 12) s := by cases r <;> rfl

theorem exec_ofInc16 (p : R16) (s : State) : exec (.ofInc16 p) s = (s.setR16 p (s.getR16 p + 1)).done 8 := by
  cases p <;> rfl

theorem exec_ofDec16 (p : R16) (s : State) : exec (.ofDec16 p) s = (s.setR16 p (s.getR16 p - 1)).done 8 := by
  cases p <;> rfl

theorem encodedAs_ofInc8 (r : R8) : (Instr.ofInc8 r).EncodedAs [0x04 + 8 * r.code] := by
  intro sl
  cases r <;> rfl

theorem encodedAs_ofDec8 (r : R8) : (Instr.ofDec8 r).EncodedAs [0x05 + 8 * r.code] := by
  intro sl
  cases r <;> rfl

theorem encodedAs_ofInc16 (p : R16) : (Instr.ofInc16 p).EncodedAs [0x03 + 16 * p.code] := by
  intro sl
  cases p <;> rfl

theorem encodedAs_ofDec16 (p : R16) : (Instr.ofDec16 p).EncodedAs [0x0B + 16 * p.code] := by
  intro sl
  cases p <;> rfl

/-! ## An r8 operand read and written back -/

/-- F and the count are no part of what an r8 operand names (30_encoding.md R83). -/
theorem r8Holds_setFlags_withCycles (s : State) (x : Flags) (total : Nat) (r : R8) :
    ({ s.setFlags x with cycles := total } : State).r8Holds r = s.r8Holds r := by cases r <;> rfl

/-- The operand read, written at the same place with a value, then F written with flags of which all but those listed are as
before: what INC and DEC of a byte do. -/
theorem readR8_writeR8_setFlags_spec {written : List Flag} {x : Res8} {s : State}
    (hflags : FlagsKept written s (s.setFlags x.flags)) (r : R8) (total : Nat) :
    ∃ t, (((s.readR8 r).2.writeR8 r x.value).setFlags x.flags).done total = .next t ∧
      t.r8Holds r = x.value ∧ t.flags = x.flags ∧
      OnlyR8Changes r written s t ∧ t.cycles = total ∧ Calls (s.r8Reads r ++ s.r8Writes r x.value) s t := by
  let s1 := (s.readR8 r).2.writeR8 r x.value
  obtain ⟨hvalue, -, -, -, -, hsp, hpc, -⟩ := writeR8_spec (s.readR8 r).2 r x.value
  have hread := readR8_spec s r
  have hwritten := readR8_writeR8_effect s r r x.value
  have hkept : FlagsKept written s1 (s1.setFlags x.flags) := fun fl hfl =>
    (hflags fl hfl).trans (hwritten.flags fl List.not_mem_nil).symm
  have heffect := (hwritten.trans (setFlags_effect_of_flagsKept hkept)).withCycles total
  simp only [List.append_nil, List.nil_append] at heffect
  exact ⟨_, rfl, (r8Holds_setFlags_withCycles ..).trans hvalue, flags_setFlags s1 x.flags,
    heffect.onlyR8Changes (hsp.trans (by rw [hread])) (hpc.trans (by rw [hread])), rfl, heffect.calls⟩

/-- A write of the flags with the C they had. -/
theorem flagsKept_setFlags_of_c_eq {s : State} {x : Flags} (hc : x.c = s.getFlag .c) :
    FlagsKept [.z, .n, .h] s (s.setFlags x) := fun fl hfl => by
  cases fl with
  | c => exact (getFlag_setFlags_c s x).trans hc
  | z | n | h => exact absurd (by decide) hfl

theorem incR8_eq (r : R8) (total : Nat) (s : State) :
    incR8 r total s =
      (((s.readR8 r).2.writeR8 r (inc8 (s.r8Value r) s.flags).value).setFlags
        (inc8 (s.r8Value r) s.flags).flags).done total := by
  simp only [incR8, readR8_spec]
  rfl

theorem decR8_eq (r : R8) (total : Nat) (s : State) :
    decR8 r total s =
      (((s.readR8 r).2.writeR8 r (dec8 (s.r8Value r) s.flags).value).setFlags
        (dec8 (s.r8Value r) s.flags).flags).done total := by
  simp only [decR8, readR8_spec]
  rfl

/-- Settles O41: the operand is written back with the sum, and the flags with the C they had. -/
theorem incrementByte : Obligations.IncrementByte := by
  intro r s v
  let x := inc8 (s.r8Value r) s.flags
  have hsum : x.value.toNat = (v + 1) % 256 := BitVec.toNat_add ..
  have hvalue : x.value = BitVec.ofNat 8 (v + 1) := BitVec.eq_of_toNat_eq (hsum.trans (BitVec.toNat_ofNat (v + 1) 8).symm)
  obtain ⟨t, hdone, hholds, hflags, hframe, hcycles, hcalls⟩ :=
    readR8_writeR8_setFlags_spec (x := x) (flagsKept_setFlags_of_c_eq rfl) r (r8Total r 4 12)
  refine ⟨encodedAs_ofInc8 r, t, (exec_ofInc8 r s).trans ((incR8_eq ..).trans hdone), hholds ▸ hsum, ?zero,
    congrArg Flags.n hflags, congrArg Flags.h hflags, hframe, hcycles, hvalue ▸ hcalls⟩
  case zero =>
    have hz : t.getFlag .z = decide (x.value = 0) := congrArg Flags.z hflags
    simp [hz, ← hsum, BitVec.toNat_eq]

/-- Settles O42: as INC, with the difference; it is 0 where the operand was 1. -/
theorem decrementByte : Obligations.DecrementByte := by
  intro r s v
  let x := dec8 (s.r8Value r) s.flags
  have hdiff : (x.value.toNat : Int) = ((v : Int) - 1) % 256 := toNat_sub_byte (s.r8Value r) 1
  have hvalue : x.value = BitVec.ofInt 8 ((v : Int) - 1) := by
    apply BitVec.eq_of_toNat_eq
    rw [BitVec.toNat_ofInt]
    omega
  obtain ⟨t, hdone, hholds, hflags, hframe, hcycles, hcalls⟩ :=
    readR8_writeR8_setFlags_spec (x := x) (flagsKept_setFlags_of_c_eq rfl) r (r8Total r 4 12)
  refine ⟨encodedAs_ofDec8 r, t, (exec_ofDec8 r s).trans ((decR8_eq ..).trans hdone), hholds ▸ hdiff, ?zero,
    congrArg Flags.n hflags, congrArg Flags.h hflags, hframe, hcycles, hvalue ▸ hcalls⟩
  case zero =>
    have hz : t.getFlag .z = decide (x.value = 0) := congrArg Flags.z hflags
    have hone : x.value = 0 ↔ v = 1 := sub_eq_zero.trans BitVec.toNat_inj.symm
    exact hz.trans (decide_eq_decide.mpr hone)

/-! ## INC and DEC of a pair or SP -/

/-- Settles O43: the instruction is one write of the operand, and no flag is written. -/
theorem incrementAndDecrementPair : Obligations.IncrementAndDecrementPair := by
  intro p s i byte d hmem
  obtain ⟨hbytes, v, hexec, hvalue⟩ : i.EncodedAs [byte] ∧ ∃ v, exec i s = (s.setR16 p v).done 8 ∧
      (v.toNat : Int) = (((s.getR16 p).toNat : Int) + d) % 65536 := by
    simp only [List.mem_cons, List.not_mem_nil, or_false, Prod.mk.injEq] at hmem
    obtain ⟨rfl, rfl, rfl⟩ | ⟨rfl, rfl, rfl⟩ := hmem
    · exact ⟨encodedAs_ofInc16 p, _, exec_ofInc16 p s, by bv_omega⟩
    · exact ⟨encodedAs_ofDec16 p, _, exec_ofDec16 p s, by bv_omega⟩
  have heffect := (setR16_effect s p v).withCycles 8
  have hmoved : (((s.setR16 p v).getR16 p).toNat : Int) = (((s.getR16 p).toNat : Int) + d) % 65536 := by
    rw [getR16_setR16, hvalue]
  exact ⟨hbytes, _, hexec, hmoved, fun hp => setR16_sp s hp v, heffect.regs, heffect.flags, setR16_pc s p v,
    heffect.control, memKeptOutside_nil.1 heffect.memory, rfl, heffect.calls⟩

end Sys2Proof.Machine
end

section
/-! Control transfer (46_control.md): a conditional transfer as a choice of the flags, then the jumps, each of which ends in
one write of PC: an untaken one writes the PC it had. -/

namespace Sys2Proof.Machine

/-! ## Conditions (10_state.md R31) -/

/-- The model's condition is the spec's, told from the bits of F. -/
theorem cond_eq_holds (s : State) (cc : Cc) : s.cond cc = s.holds cc := by
  cases cc with
  | nz | nc => exact (beq_false _).symm
  | z | c => exact (beq_true _).symm

/-- An untaken transfer ends in the state it began in (R210), which is `s` jumping to its own PC. -/
theorem branch_jump_eq (cc : Cc) (target : Word) (totalTaken totalNot : Nat) (s : State) :
    branch cc (s.jump target) totalTaken totalNot s =
      (s.jump (if s.holds cc then target else s.pc)).done (if s.holds cc then totalTaken else totalNot) := by
  rw [branch, cond_eq_holds]
  cases s.holds cc with
  | true | false => rfl

/-! ## The arms of exec and the bytes (30_encoding.md R85) -/

theorem exec_ofJp (cc : Cc) (a16 : Word) (s : State) : exec (.ofJp cc a16) s = branch cc (s.jump a16) 16 12 s := by
  cases cc <;> rfl

theorem exec_ofJr (cc : Cc) (e8 : Byte) (s : State) :
    exec (.ofJr cc e8) s = branch cc (s.jump (s.pc + sext16 e8)) 12 8 s := by
  cases cc <;> rfl

theorem encodedAs_ofJp (cc : Cc) (a16 : Word) :
    (Instr.ofJp cc a16).EncodedAs [0xC2 + 8 * cc.code, loByte a16, hiByte a16] := by
  intro sl
  cases cc <;> rfl

theorem encodedAs_ofJr (cc : Cc) (e8 : Byte) : (Instr.ofJr cc e8).EncodedAs [0x20 + 8 * cc.code, e8] := by
  intro sl
  cases cc <;> rfl

/-! ## Jumps -/

theorem jump_effect (s : State) (target : Word) : Effect [] [] [] [] s (s.jump target) where
  regs r _ _ := by cases r <;> rfl
  flags := flagsKept_of_f_eq rfl _
  control := ⟨rfl, rfl, rfl, rfl, rfl, rfl, rfl, rfl, rfl, rfl, rfl⟩
  memory _ _ := rfl
  calls := (calls_nil _ _).2 ⟨rfl, rfl⟩

theorem Effect.onlyPcChanges {calls : List BusEvent} {s t : State} (h : Effect [] [] [] calls s t) (hsp : t.sp = s.sp) :
    OnlyPcChanges s t :=
  ⟨h.regs, h.flags, hsp, h.control, memKeptOutside_nil.1 h.memory⟩

/-- An instruction that ends in a jump writes PC alone and makes no bus call. -/
theorem jump_done_spec (s : State) (target : Word) (total : Nat) :
    ∃ t, (s.jump target).done total = .next t ∧ t.pc = target ∧ OnlyPcChanges s t ∧ t.cycles = total ∧ Calls [] s t := by
  have heffect := (jump_effect s target).withCycles total
  exact ⟨_, rfl, rfl, heffect.onlyPcChanges rfl, rfl, heffect.calls⟩

/-- Settles O44: each instruction is a jump to its target, or to the PC it had where the condition fails. -/
theorem jumpToAddress : Obligations.JumpToAddress := by
  intro a16 cc s i bytes taken target total hmem
  obtain ⟨hbytes, hexec⟩ : i.EncodedAs bytes ∧ exec i s = (s.jump (if taken then target else s.pc)).done total := by
    simp only [List.mem_cons, List.not_mem_nil, or_false, Prod.mk.injEq] at hmem
    obtain ⟨rfl, rfl, rfl, rfl, rfl⟩ | ⟨rfl, rfl, rfl, rfl, rfl⟩ | ⟨rfl, rfl, rfl, rfl, rfl⟩ := hmem
    · exact ⟨fun _ => rfl, rfl⟩
    · exact ⟨fun _ => rfl, rfl⟩
    · exact ⟨encodedAs_ofJp cc target, (exec_ofJp ..).trans (branch_jump_eq ..)⟩
  exact ⟨hbytes, hexec ▸ jump_done_spec s _ total⟩

/-- Settles O45: each instruction is a jump to the PC it had, moved by the displacement where the condition holds. -/
theorem jumpRelative : Obligations.JumpRelative := by
  intro e8 cc s i bytes taken total hmem
  obtain ⟨hbytes, hexec⟩ :
      i.EncodedAs bytes ∧ exec i s = (s.jump (if taken then s.pc + sext16 e8 else s.pc)).done total := by
    simp only [List.mem_cons, List.not_mem_nil, or_false, Prod.mk.injEq] at hmem
    obtain ⟨rfl, rfl, rfl, rfl⟩ | ⟨rfl, rfl, rfl, rfl⟩ := hmem
    · exact ⟨fun _ => rfl, rfl⟩
    · exact ⟨encodedAs_ofJr cc e8, (exec_ofJr ..).trans (branch_jump_eq ..)⟩
  have hmoved : ((if taken then s.pc + sext16 e8 else s.pc).toNat : Int) =
      ((s.pc.toNat : Int) + (if taken then e8.toInt else 0)) % 65536 := by
    cases taken with
    | true => exact toNat_add_sext16 s.pc e8
    | false =>
      simp only [Bool.false_eq_true, if_false]
      omega
  obtain ⟨t, hdone, hpc, hframe⟩ := jump_done_spec s (if taken then s.pc + sext16 e8 else s.pc) total
  exact ⟨hbytes, t, hexec.trans hdone, hpc ▸ hmoved, hframe⟩

end Sys2Proof.Machine
end

section
/-! Rotates, shifts and bits (47_bit.md): A rotated and the flags written; then the CB instructions, which read an r8
operand and write it back with flags (rotates and shifts), without (RES, SET), or write the flags alone (BIT). -/

namespace Sys2Proof.Machine

/-! ## The arms of exec and the bytes (30_encoding.md R85, R86) -/

theorem exec_ofRot (op : RotOp) (r : R8) (s : State) : exec (.ofRot op r) s = rotR8 op r (r8Total r 8 16) s := by
  cases op <;> cases r <;> rfl

theorem exec_ofBit (b : Fin 8) (r : R8) (s : State) : exec (.ofBit b r) s = testBitR8 b r (r8Total r 8 12) s := by
  fin_cases b <;> cases r <;> rfl

theorem exec_ofRes (b : Fin 8) (r : R8) (s : State) : exec (.ofRes b r) s = resBitR8 b r (r8Total r 8 16) s := by
  fin_cases b <;> cases r <;> rfl

theorem exec_ofSet (b : Fin 8) (r : R8) (s : State) : exec (.ofSet b r) s = setBitR8 b r (r8Total r 8 16) s := by
  fin_cases b <;> cases r <;> rfl

theorem encodedAs_ofRot (op : RotOp) (r : R8) : (Instr.ofRot op r).EncodedAs [0xCB, 8 * op.code + r.code] := by
  intro sl
  cases op <;> cases r <;> rfl

theorem encodedAs_ofBit (b : Fin 8) (r : R8) :
    (Instr.ofBit b r).EncodedAs [0xCB, 0x40 + 8 * BitVec.ofNat 8 b.val + r.code] := by
  intro sl
  fin_cases b <;> cases r <;> rfl

theorem encodedAs_ofRes (b : Fin 8) (r : R8) :
    (Instr.ofRes b r).EncodedAs [0xCB, 0x80 + 8 * BitVec.ofNat 8 b.val + r.code] := by
  intro sl
  fin_cases b <;> cases r <;> rfl

theorem encodedAs_ofSet (b : Fin 8) (r : R8) :
    (Instr.ofSet b r).EncodedAs [0xCB, 0xC0 + 8 * BitVec.ofNat 8 b.val + r.code] := by
  intro sl
  fin_cases b <;> cases r <;> rfl

/-! ## The accumulator rotates -/

theorem rotA_eq (op : RotOp) (total : Nat) (s : State) :
    rotA op total s =
      ((s.set8 .a (rotate op (s.get8 .a) (s.getFlag .c)).1).setFlags
        (rotAFlags (rotCarry op (s.get8 .a)))).done total := by
  rw [← rotate_carry op (s.get8 .a) (s.getFlag .c)]
  rfl

/-- Settles O49: A is written with the rotated byte, then the four flags, of which C alone depends on A. -/
theorem accumulatorRotates : Obligations.AccumulatorRotates := by
  intro op i s hmem
  obtain ⟨hbytes, hexec⟩ : i.EncodedAs [0x07 + 8 * op.code] ∧ exec i s = rotA op 4 s := by
    simp only [List.mem_cons, List.not_mem_nil, or_false, Prod.mk.injEq] at hmem
    obtain ⟨rfl, rfl⟩ | ⟨rfl, rfl⟩ | ⟨rfl, rfl⟩ | ⟨rfl, rfl⟩ := hmem
    all_goals exact ⟨fun _ => rfl, rfl⟩
  let v := (rotate op (s.get8 .a) (s.getFlag .c)).1
  let s1 := s.set8 .a v
  let x := rotAFlags (rotCarry op (s.get8 .a))
  have heffect := ((set8_effect s (r := .a) (by decide) v).trans (setFlags_effect s1 x)).withCycles 4
  exact ⟨hbytes, _, hexec.trans (rotA_eq ..), rotate_bit op _ _, getFlag_setFlags_z s1 x, getFlag_setFlags_n s1 x,
    getFlag_setFlags_h s1 x, getFlag_setFlags_c s1 x, heffect.onlyRegsChange rfl rfl, rfl, heffect.calls⟩

/-! ## Rotates, shifts and SWAP of an r8 operand -/

theorem rotR8_eq (op : RotOp) (r : R8) (total : Nat) (s : State) :
    rotR8 op r total s =
      (((s.readR8 r).2.writeR8 r (rotate op (s.r8Value r) (s.getFlag .c)).1).setFlags
        (rotFlags (rotate op (s.r8Value r) (s.getFlag .c)).1 (rotCarry op (s.r8Value r)))).done total := by
  simp only [rotR8, readR8_spec, rotate_carry]
  rfl

/-- Settles O50: the operand is written back with the rotated byte, and all four flags are written. -/
theorem rotatesAndShifts : Obligations.RotatesAndShifts := by
  intro op r s
  let v := (rotate op (s.r8Value r) (s.getFlag .c)).1
  let x : Res8 := ⟨v, rotFlags v (rotCarry op (s.r8Value r))⟩
  obtain ⟨t, hdone, hholds, hflags, hframe, hcycles, hcalls⟩ :=
    readR8_writeR8_setFlags_spec (x := x) (setFlags_effect s x.flags).flags r (r8Total r 8 16)
  exact ⟨encodedAs_ofRot op r, t, (exec_ofRot op r s).trans ((rotR8_eq ..).trans hdone),
    fun k hk => hholds ▸ rotate_bit op _ _ k hk, hholds ▸ congrArg Flags.z hflags, congrArg Flags.n hflags,
    congrArg Flags.h hflags, congrArg Flags.c hflags, hframe, hcycles, hholds ▸ hcalls⟩

/-! ## BIT -/

theorem testBitR8_eq (b : Fin 8) (r : R8) (total : Nat) (s : State) :
    testBitR8 b r total s = ((s.readR8 r).2.setFlags (bitFlags (s.r8Value r) b s.flags)).done total := by
  simp only [testBitR8, readR8_spec]
  rfl

/-- Settles O51: the operand is read, then the flags are written with the C they had. -/
theorem bitTest : Obligations.BitTest := by
  intro b r s
  let s1 := (s.readR8 r).2
  let x := bitFlags (s.r8Value r) b s.flags
  have hread := readR8_spec s r
  have hcarry : x.c = s1.getFlag .c := ((readR8_effect s r).flags .c List.not_mem_nil).symm
  have heffect := ((readR8_effect s r).trans
    (setFlags_effect_of_flagsKept (flagsKept_setFlags_of_c_eq hcarry))).withCycles (r8Total r 8 12)
  refine ⟨encodedAs_ofBit b r, _, (exec_ofBit b r s).trans (testBitR8_eq ..), ?zero, getFlag_setFlags_n s1 x,
    getFlag_setFlags_h s1 x, heffect.onlyRegsChange (congrArg (·.2.sp) hread) (congrArg (·.2.pc) hread), rfl, ?calls⟩
  case zero => exact (getFlag_setFlags_z s1 x).trans (beq_false _).symm
  case calls => simpa only [List.append_nil] using heffect.calls

/-! ## RES and SET -/

/-- The mask of RES and SET has bit b alone. -/
theorem getLsbD_one_shiftLeft (b : Fin 8) (k : Nat) : (1#8 <<< b.val).getLsbD k = decide (k = b.val) := by
  simp [← BitVec.twoPow_eq, BitVec.getLsbD_twoPow, b.isLt, eq_comm]

theorem getLsbD_clearBit {k : Nat} (hk : k < 8) (v : Byte) (b : Fin 8) :
    (v &&& ~~~(1#8 <<< b.val)).getLsbD k = if k = b.val then false else v.getLsbD k := by
  rw [BitVec.getLsbD_and, BitVec.getLsbD_not, getLsbD_one_shiftLeft]
  split <;> simp [*]

theorem getLsbD_setBit (v : Byte) (b : Fin 8) (k : Nat) :
    (v ||| 1#8 <<< b.val).getLsbD k = if k = b.val then true else v.getLsbD k := by
  rw [BitVec.getLsbD_or, getLsbD_one_shiftLeft]
  split <;> simp [*]

theorem resBitR8_eq (b : Fin 8) (r : R8) (total : Nat) (s : State) :
    resBitR8 b r total s = ((s.readR8 r).2.writeR8 r (s.r8Value r &&& ~~~(1#8 <<< b.val))).done total := by
  simp only [resBitR8, readR8_spec]

theorem setBitR8_eq (b : Fin 8) (r : R8) (total : Nat) (s : State) :
    setBitR8 b r total s = ((s.readR8 r).2.writeR8 r (s.r8Value r ||| 1#8 <<< b.val)).done total := by
  simp only [setBitR8, readR8_spec]

/-- The operand read, then written at the same place with a value, and no flag written. -/
theorem readR8_writeR8_spec (s : State) (r : R8) (v : Byte) (total : Nat) :
    ∃ t, ((s.readR8 r).2.writeR8 r v).done total = .next t ∧ t.r8Holds r = v ∧
      OnlyR8Changes r [] s t ∧ t.cycles = total ∧ Calls (s.r8Reads r ++ s.r8Writes r v) s t := by
  obtain ⟨hvalue, -, -, -, -, hsp, hpc, -⟩ := writeR8_spec (s.readR8 r).2 r v
  have hread := readR8_spec s r
  have heffect := (readR8_writeR8_effect s r r v).withCycles total
  exact ⟨_, rfl, hvalue, heffect.onlyR8Changes (hsp.trans (congrArg (·.2.sp) hread))
    (hpc.trans (congrArg (·.2.pc) hread)), rfl, heffect.calls⟩

/-- Settles O52: the operand is written back with bit b cleared or set, and F is not written. -/
theorem resetAndSetBit : Obligations.ResetAndSetBit := by
  intro b r s i base v hmem
  obtain ⟨hbytes, w, hexec, hbits⟩ : i.EncodedAs [0xCB, base + 8 * BitVec.ofNat 8 b.val + r.code] ∧
      ∃ w, exec i s = ((s.readR8 r).2.writeR8 r w).done (r8Total r 8 16) ∧
        ∀ k < 8, w.getLsbD k = if k = b.val then v else (s.r8Value r).getLsbD k := by
    simp only [List.mem_cons, List.not_mem_nil, or_false, Prod.mk.injEq] at hmem
    obtain ⟨rfl, rfl, rfl⟩ | ⟨rfl, rfl, rfl⟩ := hmem
    · exact ⟨encodedAs_ofRes b r, _, (exec_ofRes b r s).trans (resBitR8_eq ..), fun k hk => getLsbD_clearBit hk _ b⟩
    · exact ⟨encodedAs_ofSet b r, _, (exec_ofSet b r s).trans (setBitR8_eq ..), fun k _ => getLsbD_setBit _ b k⟩
  obtain ⟨t, hdone, hholds, hframe, hcycles, hcalls⟩ := readR8_writeR8_spec s r w (r8Total r 8 16)
  exact ⟨hbytes, t, hexec.trans hdone, hholds ▸ hbits, hframe, hcycles, hholds ▸ hcalls⟩

end Sys2Proof.Machine
end

section
/-! The stack (48_stack.md): Pop16 as a transition of its own, then the pair written with the word popped. -/

namespace Sys2Proof.Machine

/-! ## The arms of exec and the bytes (30_encoding.md R85) -/

theorem exec_ofPop (p : R16Stk) (s : State) : exec (.ofPop p) s = popR16 p 12 s := by cases p <;> rfl

theorem encodedAs_ofPop (p : R16Stk) : (Instr.ofPop p).EncodedAs [0xC1 + 16 * p.code] := by
  intro sl
  cases p <;> rfl

/-! ## The word popped (R270) -/

/-- Pop16's two reads are all it does but for SP. -/
theorem pop16_effect (s : State) :
    Effect [] [] [] [.read s.sp (s.answer 0 s.sp), .read (s.sp + 1) (s.answer 1 (s.sp + 1))] s s.pop16.2 := by
  rw [pop16_spec]
  exact ⟨fun r _ _ => by cases r <;> rfl, flagsKept_of_f_eq rfl _,
    ⟨rfl, rfl, rfl, rfl, rfl, rfl, rfl, rfl, rfl, rfl, rfl⟩, fun _ _ => rfl, ⟨rfl, rfl⟩⟩

theorem popR16_eq (p : R16Stk) (total : Nat) (s : State) :
    popR16 p total s =
      (s.pop16.2.set16 (stkPair p) (ofBytes (s.answer 1 (s.sp + 1)) (s.answer 0 s.sp))).done total := by
  simp only [popR16, pop16_spec]

/-! ## The pair written, AF among them (R272, R273) -/

theorem stkPair_eq_af (p : R16Stk) : stkPair p = .af ↔ p = .af := by cases p <;> decide

/-- As `set16_effect`, but for AF too, whose low byte is the four flags. -/
theorem set16_anyPair_effect (s : State) (p : RegPair) (v : Word) :
    Effect [p.high, p.low] [.z, .n, .h, .c] [] [] s (s.set16 p v) := by
  obtain ⟨hregs, -, hcontrol, -, -, hmem, hbus⟩ := set16_spec s p v
  refine ⟨hregs, fun fl hfl => absurd (by cases fl <;> decide) hfl, hcontrol, fun a _ => byteAt_of_mem_eq hmem a, ?_⟩
  exact (calls_nil _ _).2 ⟨hbus, by simp [State.set16]⟩

/-- F's mask (10_state.md R23) keeps the four flags. -/
theorem getLsbD_mask_flagBit (v : Byte) (fl : Flag) : (v &&& 0xF0).getLsbD fl.bit = v.getLsbD fl.bit := by
  cases fl <;> simp [Flag.bit]

theorem getFlag_set16_af (s : State) (v : Word) (fl : Flag) :
    (s.set16 .af v).getFlag fl = (loByte v).getLsbD fl.bit := getLsbD_mask_flagBit (loByte v) fl

/-- Settles O54: the word is popped, then the pair written with it; F is written only where the pair is AF. -/
theorem popLoadsThePair : Obligations.PopLoadsThePair := by
  intro p s
  let s1 := s.pop16.2
  let v := ofBytes (s.answer 1 (s.sp + 1)) (s.answer 0 s.sp)
  obtain ⟨-, hf, -, hsp, hpc, -, -⟩ := set16_spec s1 (stkPair p) v
  have hpop := pop16_spec s
  have heffect := ((pop16_effect s).trans (set16_anyPair_effect s1 (stkPair p) v)).withCycles 12
  refine ⟨encodedAs_ofPop p, _, (exec_ofPop p s).trans (popR16_eq p 12 s), hsp.trans (congrArg (·.2.sp) hpop), ?high,
    ?low, ?flagsOfAf, ?flagsKept, heffect.regs, hpc.trans (congrArg (·.2.pc) hpop), heffect.control,
    memKeptOutside_nil.1 heffect.memory, rfl, heffect.calls⟩
  case high =>
    calc (s1.set16 (stkPair p) v).get8 (stkPair p).high
        = hiByte v := by simp [get8_set16]
      _ = s.answer 1 (s.sp + 1) := hiByte_ofBytes _ _
  case low =>
    calc (s1.set16 (stkPair p) v).get8 (stkPair p).low
        = if p = .af then loByte v &&& 0xF0 else loByte v := by simp [get8_set16, stkPair_eq_af]
      _ = if p = .af then s.answer 0 s.sp &&& 0xF0 else s.answer 0 s.sp := by rw [loByte_ofBytes]
  case flagsOfAf =>
    rintro rfl fl
    exact (getFlag_set16_af s1 v fl).trans (congrArg (·.getLsbD fl.bit) (loByte_ofBytes _ _))
  case flagsKept =>
    exact fun hp => flagsKept_of_f_eq ((hf ((stkPair_eq_af p).not.2 hp)).trans (congrArg (·.2.f) hpop)) _

end Sys2Proof.Machine
end

section
/-! System (49_system.md): NOP. -/

namespace Sys2Proof.Machine

/-- Settles O55: the instruction ends in the state it began in, with its count. -/
theorem nopDoesNothing : Obligations.NopDoesNothing := by
  intro s
  have heffect := (Effect.refl s).withCycles 4
  exact ⟨fun _ => rfl, _, rfl, heffect.onlyRegsChange rfl rfl, rfl, heffect.calls⟩

end Sys2Proof.Machine
end

section
/-! The round trip (30_encoding.md): what an opcode byte and the two bytes after it are encoded as once decoded, by the
maps of R85 and R86, and from that what the decoder leaves, drops and does not look at. -/

namespace Sys2Proof

open Machine

/-! ## The bytes of the rows that write to the stack or read it (R85) -/

theorem encodedAs_ofCall (cc : Cc) (a16 : Word) :
    (Instr.ofCall cc a16).EncodedAs [0xC4 + 8 * cc.code, loByte a16, hiByte a16] := by
  intro sl
  cases cc <;> rfl

theorem encodedAs_ofRet (cc : Cc) : (Instr.ofRet cc).EncodedAs [0xC0 + 8 * cc.code] := by
  intro sl
  cases cc <;> rfl

theorem encodedAs_ofRst (t : Fin 8) : (Instr.ofRst t).EncodedAs [0xC7 + 8 * BitVec.ofNat 8 t.val] := by
  intro sl
  fin_cases t <;> rfl

theorem encodedAs_ofPush (p : R16Stk) : (Instr.ofPush p).EncodedAs [0xC5 + 16 * p.code] := by
  intro sl
  cases p <;> rfl

/-! ## The encoding of what is decoded -/

/-- The bytes of an instruction with other operand bytes in the place of its own. -/
def putOperands (bytes : List Byte) (b1 b2 : Byte) : List Byte := bytes.take 1 ++ [b1, b2].take (bytes.length - 1)

@[simp] theorem putOperands_one (op b1 b2 : Byte) : putOperands [op] b1 b2 = [op] := rfl
@[simp] theorem putOperands_two (op v b1 b2 : Byte) : putOperands [op, v] b1 b2 = [op, b1] := rfl
@[simp] theorem putOperands_three (op v w b1 b2 : Byte) : putOperands [op, v, w] b1 b2 = [op, b1, b2] := rfl

/-- A 16-bit immediate is its two operand bytes, low byte first (R84). -/
theorem word_eq_putOperands (op b1 b2 : Byte) :
    [op, loByte (ofBytes b2 b1), hiByte (ofBytes b2 b1)] = putOperands [op, loByte 0, hiByte 0] b1 b2 := by
  rw [loByte_ofBytes, hiByte_ofBytes, putOperands_three]

/-- Every slot of the CB map is encoded as 0xCB and its own byte (R86, R88). -/
theorem encode_decodeCb : ∀ op2 : Byte, encode .one (decodeCb op2) = [0xCB, op2] := by decide

/-- In the quadrant x=0 the operand bytes stand in the encoding as they were read, after an opcode byte they have no say
in. -/
theorem encode_decodeX0_operands (op b1 b2 : Byte) :
    encode .one (decodeX0 op b1 (ofBytes b2 b1)) = putOperands (encode .one (decodeX0 op 0 0)) b1 b2 := by
  simp only [decodeX0]
  split
  case h_1 =>
    split
    case h_2 => exact word_eq_putOperands _ b1 b2
    case h_5 => simp [encodedAs_ofJr _ _ _]
    all_goals rfl
  case h_2 => split <;> simp [encodedAs_ofLd16 _ _ _, encodedAs_ofAddHl _ _]
  case h_3 => split <;> simp [encodedAs_ofStoreA _ _, encodedAs_ofLoadA _ _]
  case h_4 => split <;> simp [encodedAs_ofInc16 _ _, encodedAs_ofDec16 _ _]
  case h_5 => simp [encodedAs_ofInc8 _ _]
  case h_6 => simp [encodedAs_ofDec8 _ _]
  case h_7 => simp [encodedAs_ofLdImm _ _ _]
  case h_8 => split <;> rfl

/-- As in x=0; the byte after 0xCB is the CB opcode (R88). -/
theorem encode_decodeX3_operands (op b1 b2 : Byte) :
    encode .one (decodeX3 op b1 (ofBytes b2 b1)) = putOperands (encode .one (decodeX3 op 0 0)) b1 b2 := by
  simp only [decodeX3]
  split
  case h_1 =>
    split
    case h_5 => simp [encodedAs_ofRet _ _]
    all_goals rfl
  case h_2 =>
    split
    · simp [encodedAs_ofPop _ _]
    · split <;> rfl
  case h_3 =>
    split
    case h_2 | h_4 => exact word_eq_putOperands _ b1 b2
    case h_5 => simp [encodedAs_ofJp _ _ _]
    all_goals rfl
  case h_4 =>
    split
    case h_1 => exact word_eq_putOperands _ b1 b2
    case h_2 => simp [encode_decodeCb]
    all_goals rfl
  case h_5 =>
    split
    case h_5 => simp [encodedAs_ofCall _ _ _]
    all_goals rfl
  case h_6 =>
    split
    · simp [encodedAs_ofPush _ _]
    · split
      case h_1 => exact word_eq_putOperands _ b1 b2
      all_goals rfl
  case h_7 =>
    have h := encodedAs_aluInstr (.ofField (fieldY op))
    exact (h (.n8 b1) .one).trans (congrArg (putOperands · b1 b2) (h (.n8 0) .one)).symm
  case h_8 => simp [encodedAs_ofRst _ _]

/-- What is decoded is encoded as the bytes it was decoded from, as many as the opcode byte calls for. Since the operand
bytes stand in the encoding as they were read, the 256 opcode bytes with operand bytes 0 are all there is to look at. -/
theorem encode_decodeInstr (op b1 b2 : Byte) :
    encode .one (decodeInstr op b1 b2) = op :: [b1, b2].take (operandBytes op) := by
  have hzero : ∀ op : Byte, (encode .one (decodeInstr op 0 0)).take 1 = [op] ∧
      (encode .one (decodeInstr op 0 0)).length - 1 = operandBytes op := by decide
  have hput : encode .one (decodeInstr op b1 b2) = putOperands (encode .one (decodeInstr op 0 0)) b1 b2 := by
    simp only [decodeInstr]
    split
    · exact encode_decodeX0_operands op b1 b2
    · generalize R8.ofField (fieldY op) = dst, R8.ofField (fieldZ op) = src
      cases dst <;> cases src <;> rfl
    · generalize AluOp.ofField (fieldY op) = a, R8.ofField (fieldZ op) = r
      exact (encodedAs_aluInstr a (.r8 r) .one).trans
        (congrArg (putOperands · b1 b2) (encodedAs_aluInstr a (.r8 r) .one)).symm
    · exact encode_decodeX3_operands op b1 b2
  obtain ⟨hop, hlen⟩ := hzero op
  rw [hput, putOperands, hop, hlen, List.singleton_append]


/-! ## The round trip -/

/-- Settles O1: but for STOP and the marker of a lone 0xCB, an instruction is its opcode byte alone, or with one byte
after it, or with a word (R82), and each of the three shapes is read back. -/
theorem decodeOfEncodeIsTheInstruction : Obligations.DecodeOfEncodeIsTheInstruction := by
  intro i sl rest hcb
  cases i
  case stop => exact Laws.RoundTrip.stop sl rest hcb
  case prefix_cb => exact Laws.RoundTrip.prefix_cb sl rest hcb
  all_goals first
    | exact Laws.decode_none rfl (by decide) (fun _ _ => rfl) sl rest
    | exact Laws.decode_one rfl (by decide) (fun _ => rfl) sl rest
    | exact Laws.decode_two rfl (by decide) (fun _ _ h => congrArg _ h) sl rest

/-- A byte that the opcode byte does not call for is not looked at. -/
theorem decodeInstr_congr {op b1 b2 c1 c2 : Byte}
    (h : [b1, b2].take (operandBytes op) = [c1, c2].take (operandBytes op)) :
    decodeInstr op b1 b2 = decodeInstr op c1 c2 := by
  have hprefix : (decodeInstr op b1 b2).isPrefix = true → [c1, c2].drop (operandBytes op) = [] := fun hcb =>
    absurd hcb (by simp [isPrefix_decodeInstr])
  have hread := decodeOfEncodeIsTheInstruction (decodeInstr op b1 b2) .one ([c1, c2].drop (operandBytes op)) hprefix
  rw [encode_decodeInstr, h, List.cons_append, List.take_append_drop, decode_cons_cons_cons] at hread
  exact (congrArg Prod.fst (Except.ok.inj hread)).symm

/-- Every term but the marker of a lone 0xCB stands in the maps. -/
theorem exists_decodeInstr_eq {i : Instr} (h : i ≠ .prefix_cb) : ∃ op b1 b2, decodeInstr op b1 b2 = i := by
  have hread := decodeOfEncodeIsTheInstruction i .one [0, 0, 0] fun hcb => absurd (isPrefix_iff.1 hcb) h
  obtain ⟨op, b1, b2, rest, hbytes⟩ : ∃ op b1 b2 rest, encode .one i ++ [0, 0, 0] = op :: b1 :: b2 :: rest :=
    match encode .one i with
    | [] | [_] | [_, _] | _ :: _ :: _ :: _ => ⟨_, _, _, _, rfl⟩
  rw [hbytes, decode_cons_cons_cons] at hread
  exact ⟨op, b1, b2, congrArg Prod.fst (Except.ok.inj hread)⟩

/-- Only STOP's bytes depend on STOP_LENGTH (R282). -/
theorem encode_of_ne_stop {i : Instr} (h : i ≠ .stop) (sl : StopLength) : encode sl i = encode .one i := by
  cases i
  case stop => exact absurd rfl h
  all_goals rfl

/-- The bytes the decoder takes from the front of a list, 0 standing for those it does not need. -/
theorem take_getD_getD {n : Nat} {l : List Byte} (hn : n ≤ 2) (hl : n ≤ l.length) :
    [l.getD 0 0, l.getD 1 0].take n = l.take n := by
  interval_cases n
  · rfl
  · match l, hl with
    | _ :: _, _ => rfl
  · match l, hl with
    | _ :: _ :: _, _ => rfl

/-- Settles O2: the decoder takes as many bytes after the opcode byte as it then drops, and those are the ones
encoded. -/
theorem encodeOfDecodeIsTheBytes : Obligations.EncodeOfDecodeIsTheBytes := by
  intro sl bytes rest i hdecode hstop
  cases bytes with
  | nil => cases hdecode
  | cons op tl =>
    simp only [decode] at hdecode
    split at hdecode
    · rename_i hlen
      obtain ⟨rfl, hrest⟩ := Prod.mk.inj (Except.ok.inj hdecode)
      have hop : op ≠ 0x10 := fun h => hstop (by rw [h]; rfl)
      rw [if_neg hop] at hrest
      rw [encode_of_ne_stop hstop, encode_decodeInstr, take_getD_getD (Machine.operandBytes_le op) hlen, ← hrest,
        List.cons_append, List.take_append_drop]
    · split at hdecode
      · rename_i hcb
        obtain ⟨rfl, rfl⟩ := Prod.mk.inj (Except.ok.inj hdecode)
        rw [hcb]
        rfl
      · cases hdecode

/-- Settles O4: what the decoder drops depends on the opcode byte alone, and for each is what the grid of R85 says. -/
theorem lengthIsToldByTheFirstByte : Obligations.LengthIsToldByTheFirstByte := by
  have hgrid : ∀ (sl : StopLength) (op : Byte),
      lengthOf sl op = operandBytes op + (if op = 0x10 then stopSkip sl else 0) + 1 := by
    intro sl
    cases sl <;> decide
  intro sl op b1 b2 rest
  refine ⟨decodeInstr op b1 b2, ?_⟩
  rw [decode_cons_cons_cons, List.drop_drop, hgrid, List.drop_succ_cons]

/-- Settles O5: each word is read by running the decoder on it. -/
theorem writtenOutBytesDecode : Obligations.WrittenOutBytesDecode :=
  ⟨rfl, rfl, rfl, rfl, rfl, rfl, rfl, rfl, rfl⟩

end Sys2Proof
end

section
/-! Calls, returns and PUSH (46_control.md, 48_stack.md): Push16 and Pop16 with the write of PC after them. -/

namespace Sys2Proof.Machine

/-! ## The arms of exec, by operand -/

theorem exec_ofCall (cc : Cc) (a16 : Word) (s : State) : exec (.ofCall cc a16) s = branch cc (s.call a16) 24 12 s := by
  cases cc <;> rfl

theorem exec_ofRet (cc : Cc) (s : State) : exec (.ofRet cc) s = branch cc s.ret 20 8 s := by cases cc <;> rfl

theorem exec_ofRst (t : Fin 8) (s : State) : exec (.ofRst t) s = (s.call (rstTarget t)).done 16 := by
  fin_cases t <;> rfl

theorem exec_ofPush (p : R16Stk) (s : State) : exec (.ofPush p) s = (s.push16 (s.get16 (stkPair p))).done 16 := by
  cases p <;> rfl

theorem branch_of_holds {cc : Cc} {s : State} (h : s.holds cc = true) (taken : State) (totalTaken totalNot : Nat) :
    branch cc taken totalTaken totalNot s = taken.done totalTaken := by
  rw [branch, cond_eq_holds, if_pos h]

theorem branch_of_not_holds {cc : Cc} {s : State} (h : s.holds cc = false) (taken : State) (totalTaken totalNot : Nat) :
    branch cc taken totalTaken totalNot s = s.done totalNot := by
  rw [branch, cond_eq_holds, h, if_neg Bool.false_ne_true]

/-! ## Push16 -/

theorem push16_effect (s : State) (v : Word) :
    Effect [] [] [s.sp - 1, s.sp - 2] [.write (s.sp - 1) (hiByte v), .write (s.sp - 2) (loByte v)] s (s.push16 v) := by
  obtain ⟨-, -, -, hmem, hregs, hf, -, hcontrol, hcalls⟩ := push16_spec s v
  exact ⟨hregs, flagsKept_of_f_eq hf _, hcontrol, hmem, hcalls⟩

/-- Settles O46: the return address is pushed, then PC written with the target. -/
theorem callPushesTheReturnAddress : Obligations.CallPushesTheReturnAddress := by
  intro a16 rst cc s i bytes target total hmem
  obtain ⟨hbytes, hexec⟩ : i.EncodedAs bytes ∧ exec i s = (s.call target).done total := by
    rw [List.mem_append] at hmem
    rcases hmem with hmem | hmem
    · simp only [List.mem_cons, List.not_mem_nil, or_false, Prod.mk.injEq] at hmem
      obtain ⟨rfl, rfl, rfl, rfl⟩ | ⟨rfl, rfl, rfl, rfl⟩ := hmem
      · exact ⟨fun _ => rfl, rfl⟩
      · refine ⟨encodedAs_ofRst rst, (exec_ofRst rst s).trans ?_⟩
        rw [rstTarget, Nat.mul_comm]
    · split at hmem
      · rename_i hcc
        obtain ⟨rfl, rfl, rfl, rfl⟩ := by simpa only [List.mem_singleton, Prod.mk.injEq] using hmem
        exact ⟨encodedAs_ofCall cc target, (exec_ofCall cc target s).trans (branch_of_holds hcc _ _ _)⟩
      · cases hmem
  obtain ⟨hsp, hhigh, hlow, -⟩ := push16_spec s s.pc
  have heffect := ((push16_effect s s.pc).trans (jump_effect _ target)).withCycles total
  exact ⟨hbytes, _, hexec, rfl, hsp, hhigh, hlow, heffect.memory, heffect.regs, heffect.flags, heffect.control, rfl,
    heffect.calls⟩

/-- Settles O53: the pair read is pushed, and its two bytes are its two registers (10_state.md R22). -/
theorem pushStoresThePair : Obligations.PushStoresThePair := by
  intro p s
  obtain ⟨hsp, hhigh, hlow, -⟩ := push16_spec s (s.get16 (stkPair p))
  have heffect := (push16_effect s (s.get16 (stkPair p))).withCycles 16
  have hhi : hiByte (s.get16 (stkPair p)) = s.get8 (stkPair p).high := hiByte_ofBytes _ _
  have hlo : loByte (s.get16 (stkPair p)) = s.get8 (stkPair p).low := loByte_ofBytes _ _
  rw [hhi] at hhigh
  rw [hlo] at hlow
  exact ⟨encodedAs_ofPush p, _, exec_ofPush p s, hsp, hhigh, hlow, heffect.memory, heffect.regs, heffect.flags, rfl,
    heffect.control, rfl, hhi ▸ hlo ▸ heffect.calls⟩

/-! ## Returns -/

theorem setIme_ret_effect (s : State) (ime : Bool) :
    Effect [] [] [] [.read s.sp (s.answer 0 s.sp), .read (s.sp + 1) (s.answer 1 (s.sp + 1))] { s with ime := ime }
      { s.ret with ime := ime } :=
  (pop16_effect { s with ime := ime }).trans (jump_effect _ _)

/-- Settles O47: each instruction is Pop16 with PC written with the word, and IME as it was but for RETI. -/
theorem returnPopsTheReturnAddress : Obligations.ReturnPopsTheReturnAddress := by
  intro cc s i byte ime total hmem
  obtain ⟨hbytes, hexec⟩ : i.EncodedAs [byte] ∧ exec i s = State.done { s.ret with ime := ime } total := by
    rw [List.mem_append] at hmem
    rcases hmem with hmem | hmem
    · simp only [List.mem_cons, List.not_mem_nil, or_false, Prod.mk.injEq] at hmem
      obtain ⟨rfl, rfl, rfl, rfl⟩ | ⟨rfl, rfl, rfl, rfl⟩ := hmem
      all_goals exact ⟨fun _ => rfl, rfl⟩
    · split at hmem
      · rename_i hcc
        obtain ⟨rfl, rfl, rfl, rfl⟩ := by simpa only [List.mem_singleton, Prod.mk.injEq] using hmem
        exact ⟨encodedAs_ofRet cc, (exec_ofRet cc s).trans (branch_of_holds hcc _ _ _)⟩
      · cases hmem
  have hpop := pop16_spec s
  have heffect := (setIme_ret_effect s ime).withCycles total
  have hpc : s.ret.pc = ofBytes (s.answer 1 (s.sp + 1)) (s.answer 0 s.sp) := congrArg Prod.fst hpop
  exact ⟨hbytes, _, hexec, (congrArg BitVec.toNat hpc).trans (toNat_ofBytes _ _), congrArg (·.2.sp) hpop, heffect.regs,
    heffect.flags, heffect.control, memKeptOutside_nil.1 heffect.memory, rfl, heffect.calls⟩

/-- Settles O48: an untaken transfer ends in the state it began in. -/
theorem untakenCallAndReturnDoNothing : Obligations.UntakenCallAndReturnDoNothing := by
  intro a16 cc s hcc
  have heffect (total : Nat) := (Effect.refl s).withCycles total
  exact ⟨⟨_, (exec_ofCall cc a16 s).trans (branch_of_not_holds hcc _ _ _), (heffect 12).onlyRegsChange rfl rfl, rfl,
      (heffect 12).calls⟩,
    ⟨_, (exec_ofRet cc s).trans (branch_of_not_holds hcc _ _ _), (heffect 8).onlyRegsChange rfl rfl, rfl,
      (heffect 8).calls⟩⟩

end Sys2Proof.Machine
end

section
/-! System (49_system.md): the instructions that write the one-bit fields, the undefined markers and the CB
map. -/

namespace Sys2Proof.Machine

/-! ## HALT, STOP, DI and EI -/

/-- Settles O56: both ways HALT writes one of the one-bit fields and nothing else. -/
theorem haltHaltsOrSetsTheHaltBug : Obligations.HaltHaltsOrSetsTheHaltBug := by
  intro s
  refine ⟨fun _ => rfl, ?_⟩
  by_cases h : s.ime = false ∧ s.irq ≠ 0
  · have hexec : exec .halt s = State.done { s with haltBug := true } 4 := if_pos h
    exact ⟨_, hexec, fun _ _ _ => rfl, fun _ _ => rfl, rfl, rfl, fun _ => rfl, rfl, (calls_nil _ _).2 ⟨rfl, rfl⟩,
      fun _ => (Effect.refl _).control, fun h' => absurd h h'⟩
  · have hexec : exec .halt s = State.done { s with halted := true } 4 := if_neg h
    exact ⟨_, hexec, fun _ _ _ => rfl, fun _ _ => rfl, rfl, rfl, fun _ => rfl, rfl, (calls_nil _ _).2 ⟨rfl, rfl⟩,
      fun h' => absurd h' h, fun _ => (Effect.refl _).control⟩

/-- Settles O57: PC moves by the length of what STOP skips (R282), 0 or 1. -/
theorem stopSkipsItsByteAndStops : Obligations.StopSkipsItsByteAndStops := by
  intro s
  refine ⟨rfl, rfl, _, rfl, ?pc, fun _ _ _ => rfl, fun _ _ => rfl, rfl, (Effect.refl _).control, fun _ => rfl, rfl,
    (calls_nil _ _).2 ⟨rfl, rfl⟩⟩
  case pc =>
    cases s.stopLength with
    | one => exact BitVec.add_zero s.pc
    | two => rfl

/-- Settles O58: each of the two ends in the state it began in with one-bit fields written. -/
theorem diAndEi : Obligations.DiAndEi := fun _ =>
  ⟨⟨fun _ => rfl, _, rfl, fun _ _ _ => rfl, fun _ _ => rfl, rfl, rfl, fun _ => rfl, (Effect.refl _).control, rfl,
      (calls_nil _ _).2 ⟨rfl, rfl⟩⟩,
    ⟨fun _ => rfl, _, rfl, fun _ _ _ => rfl, fun _ _ => rfl, rfl, rfl, fun _ => rfl, (Effect.refl _).control, rfl,
      (calls_nil _ _).2 ⟨rfl, rfl⟩⟩⟩

/-! ## The undefined markers -/

/-- Every marker is one of the eleven opcodes, is encoded as it, and saves the error with it (R286). -/
theorem undefinedByte_spec {i : Instr} {op : Byte} (h : i.undefinedByte = some op) :
    op ∈ undefinedOpcodes ∧ i.EncodedAs [op] ∧ ∀ s, exec i s = .next (s.raiseUndefined op) := by
  unfold Instr.undefinedByte at h
  split at h
  case h_12 => cases h
  all_goals
    obtain rfl := Option.some.inj h
    exact ⟨by decide, fun _ => rfl, fun _ => rfl⟩

/-- Settles O59: what the marker's bytes are and what running it does, from the lemma on the eleven of them. -/
theorem undefinedMarkersSaveTheError : Obligations.UndefinedMarkersSaveTheError := by
  intro i op s h
  obtain ⟨hop, hbytes, hexec⟩ := undefinedByte_spec h
  exact ⟨hop, hbytes, _, hexec s, rfl, (Effect.refl _).onlyRegsChange rfl rfl, rfl, (calls_nil _ _).2 ⟨rfl, rfl⟩⟩

/-! ## The CB map -/

theorem cbTotal_eq (r : R8) (onMem : Nat) : cbTotal r onMem = r8Total r 8 onMem := by cases r <;> rfl

/-- The CB table by fields runs the constructor the CB map names (R86, R285). -/
theorem execCbTable_eq (op2 : Byte) (s : State) : execCbTable op2 s = exec (decodeCb op2) s := by
  simp only [execCbTable, decodeCb, cbTotal_eq]
  generalize fieldX op2 = x
  match x with
  | 0 => exact (exec_ofRot ..).symm
  | 1 => exact (exec_ofBit ..).symm
  | 2 => exact (exec_ofRes ..).symm
  | _ + 3 => exact (exec_ofSet ..).symm

end Sys2Proof.Machine
end

section
/-! What an instruction can do to the parts of the state that the invariant and the Step speak of, said once for every
instruction: by the shared operations, by the rows of the maps, and then by the maps. -/

namespace Sys2Proof.Machine

/-! ## The shared operations -/

/-- The transition keeps the memory canonical, F's low nibble 0 and the one-bit fields, and SP too unless it may write
SP. -/
structure Keeps (mayWriteSp : Bool) (s t : State) : Prop where
  memory : s.mem.wf = true → t.mem.wf = true
  flagsLow : s.f &&& 0x0F = 0 → t.f &&& 0x0F = 0
  control : ControlKept s t
  sp : mayWriteSp = false → t.sp = s.sp

theorem Keeps.trans {w : Bool} {s t u : State} (h : Keeps w s t) (h' : Keeps w t u) : Keeps w s u where
  memory hs := h'.memory (h.memory hs)
  flagsLow hs := h'.flagsLow (h.flagsLow hs)
  control := h.control.trans h'.control
  sp hw := (h'.sp hw).trans (h.sp hw)

section

variable {w : Bool} (s : State)

theorem keeps_refl : Keeps w s s := ⟨id, id, (Effect.refl s).control, fun _ => rfl⟩

theorem memRead_keeps (a : Word) : Keeps w s (s.memRead a).2 := ⟨id, id, (memRead_effect s a).control, fun _ => rfl⟩

theorem memWrite_keeps (a : Word) (v : Byte) : Keeps w s (s.memWrite a v) :=
  ⟨memWrite_wf s a v, id, (memWrite_effect s a v).control, fun _ => rfl⟩

theorem set8_keeps (r : Reg8) (v : Byte) : Keeps w s (s.set8 r v) :=
  ⟨fun h => (set8_mem s r v).symm ▸ h, set8_flagsLow s r v, (set8_spec s r v).2.2, fun _ => set8_sp s r v⟩

theorem set16_keeps (p : RegPair) (v : Word) : Keeps w s (s.set16 p v) := (set8_keeps s _ _).trans (set8_keeps _ _ _)

theorem setFlags_keeps (x : Flags) : Keeps w s (s.setFlags x) :=
  ⟨id, fun _ => Flags.toByte_low x, (setFlags_effect s x).control, fun _ => rfl⟩

theorem setSp_keeps (v : Word) : Keeps true s { s with sp := v } := ⟨id, id, (setSp_effect s v).control, nofun⟩

theorem jump_keeps (target : Word) : Keeps w s (s.jump target) := ⟨id, id, (jump_effect s target).control, fun _ => rfl⟩

theorem readR8_keeps (r : R8) : Keeps w s (s.readR8 r).2 := by
  unfold State.readR8
  split
  · exact keeps_refl s
  · exact memRead_keeps s _

theorem writeR8_keeps (r : R8) (v : Byte) : Keeps w s (s.writeR8 r v) := by
  unfold State.writeR8
  split
  · exact set8_keeps s _ v
  · exact memWrite_keeps s _ v

theorem readSrc_keeps (x : AluSrc) : Keeps w s (s.readSrc x).2 := by
  cases x with
  | r8 r => exact readR8_keeps s r
  | n8 v => exact keeps_refl s

theorem setR16_keeps (p : R16) (v : Word) : Keeps (decide (p = .sp)) s (s.setR16 p v) := by
  cases p with
  | sp => exact setSp_keeps s v
  | bc | de | hl => exact set16_keeps s _ v

theorem push16_keeps (v : Word) : Keeps true s (s.push16 v) :=
  ⟨push16_wf s v, id, (push16_effect s v).control, nofun⟩

theorem pop16_keeps : Keeps true s s.pop16.2 :=
  ⟨id, id, (pop16_effect s).control, nofun⟩

theorem call_keeps (target : Word) : Keeps true s (s.call target) := (push16_keeps s s.pc).trans (jump_keeps _ target)

theorem ret_keeps : Keeps true s s.ret := (pop16_keeps s).trans (jump_keeps _ _)

end

/-! ## The instructions -/

/-- What instruction `i` does to the one-bit fields, locked, `ack` and the sampled inputs, from `s` to `t`: nothing, but
for the five that are there to write them. -/
inductive ControlChange (s t : State) : Instr → Prop
  | kept {i : Instr} (h : ControlKept s t) : ControlChange s t i
  | di (h : ControlKept { s with ime := false, imePending := false } t) : ControlChange s t .di
  | ei (h : ControlKept { s with imePending := true } t) : ControlChange s t .ei
  | reti (h : ControlKept { s with ime := true } t) : ControlChange s t .reti
  | halt (h : ControlKept { s with halted := true } t) : ControlChange s t .halt
  | haltBug (h : ControlKept { s with haltBug := true } t) : ControlChange s t .halt
  | stop (h : ControlKept { s with stopped := true } t) : ControlChange s t .stop

/-- The counts of R348's table (70_reset_and_hazards.md). -/
def tableCounts : List Nat := [4, 8, 12, 16, 20, 24]

/-- What instruction `i` can do from `s` to `t`. -/
structure Ran (i : Instr) (s t : State) : Prop where
  memory : s.mem.wf = true → t.mem.wf = true
  flagsLow : s.f &&& 0x0F = 0 → t.f &&& 0x0F = 0
  control : ControlChange s t i
  sp : i.writesSp = false → t.sp = s.sp
  count : t.cycles ∈ tableCounts

/-- The instruction completes, and does nothing that it cannot do. -/
def Runs (i : Instr) (s : State) : Prop := ∃ t, exec i s = .next t ∧ Ran i s t

theorem Keeps.runs {w : Bool} {i : Instr} {s t : State} {total : Nat} (h : Keeps w s t) (hsp : i.writesSp = w)
    (hexec : exec i s = t.done total) (htotal : total ∈ tableCounts) : Runs i s :=
  ⟨_, hexec, h.memory, h.flagsLow, .kept h.control, hsp ▸ h.sp, htotal⟩

theorem four_mem : 4 ∈ tableCounts := by decide

/-- An instruction that writes one-bit fields and nothing else. -/
theorem runs_of_control {i : Instr} {s s' : State} (hexec : exec i s = s'.done 4) (hmem : s'.mem = s.mem)
    (hf : s'.f = s.f) (hsp : s'.sp = s.sp) (hcontrol : ControlChange s { s' with cycles := 4 } i) : Runs i s :=
  ⟨_, hexec, fun h => hmem.symm ▸ h, fun h => hf.symm ▸ h, hcontrol, fun _ => hsp, four_mem⟩

theorem r8Total_mem (r : R8) {onReg onMem : Nat} {l : List Nat} (hreg : onReg ∈ l) (hmem : onMem ∈ l) :
    r8Total r onReg onMem ∈ l := by
  unfold r8Total
  split
  · exact hreg
  · exact hmem

/-! ## The rows of the maps -/

section

variable (s : State)

theorem runs_ofLd (dst src : R8) : Runs (.ofLd dst src) s := by
  by_cases h : dst = .mhl ∧ src = .mhl
  · obtain ⟨rfl, rfl⟩ := h
    by_cases hbug : s.ime = false ∧ s.irq ≠ 0
    · have hexec : exec .halt s = State.done { s with haltBug := true } 4 := if_pos hbug
      exact runs_of_control hexec rfl rfl rfl (.haltBug (Effect.refl _).control)
    · have hexec : exec .halt s = State.done { s with halted := true } 4 := if_neg hbug
      exact runs_of_control hexec rfl rfl rfl (.halt (Effect.refl _).control)
  · exact ((readR8_keeps s src).trans (writeR8_keeps _ dst _)).runs rfl ((exec_ofLd h s).trans (ldR8_eq ..))
      (by split <;> decide)

theorem runs_ofLdImm (dst : R8) (n8 : Byte) : Runs (.ofLdImm dst n8) s :=
  (writeR8_keeps s dst n8).runs rfl (exec_ofLdImm dst n8 s) (r8Total_mem dst (by decide) (by decide))

theorem runs_ofLoadA (m : R16Mem) : Runs (.ofLoadA m) s :=
  ((memRead_keeps s _).trans ((set8_keeps _ .a _).trans (set16_keeps _ .hl _))).runs rfl
    ((exec_ofLoadA m s).trans (loadA_eq ..)) (by decide)

theorem runs_ofStoreA (m : R16Mem) : Runs (.ofStoreA m) s :=
  ((memWrite_keeps s _ _).trans (set16_keeps _ .hl _)).runs rfl ((exec_ofStoreA m s).trans (storeA_eq ..)) (by decide)

theorem runs_ofLd16 (p : R16) (n16 : Word) : Runs (.ofLd16 p n16) s := by
  have hsp : (Instr.ofLd16 p n16).writesSp = decide (p = .sp) := by cases p <;> rfl
  exact (setR16_keeps s p n16).runs hsp (exec_ofLd16 p n16 s) (by decide)

theorem runs_ofInc16 (p : R16) : Runs (.ofInc16 p) s := by
  have hsp : (Instr.ofInc16 p).writesSp = decide (p = .sp) := by cases p <;> rfl
  exact (setR16_keeps s p _).runs hsp (exec_ofInc16 p s) (by decide)

theorem runs_ofDec16 (p : R16) : Runs (.ofDec16 p) s := by
  have hsp : (Instr.ofDec16 p).writesSp = decide (p = .sp) := by cases p <;> rfl
  exact (setR16_keeps s p _).runs hsp (exec_ofDec16 p s) (by decide)

theorem runs_ofAddHl (p : R16) : Runs (.ofAddHl p) s :=
  ((set16_keeps s .hl _).trans (setFlags_keeps _ _)).runs rfl (exec_ofAddHl p s) (by decide)

theorem srcTotal_mem (x : AluSrc) : srcTotal x ∈ tableCounts := by
  cases x with
  | r8 r => exact r8Total_mem r (by decide) (by decide)
  | n8 v => exact (by decide : 8 ∈ tableCounts)

theorem runs_aluInstr (op : AluOp) (x : AluSrc) : Runs (aluInstr op x) s := by
  by_cases hop : op = .cp
  · subst hop
    exact ((readSrc_keeps s x).trans (setFlags_keeps _ _)).runs rfl
      ((exec_aluInstr_cp x s).trans (cpA_eq ..)) (srcTotal_mem x)
  · exact ((readSrc_keeps s x).trans ((set8_keeps _ .a _).trans (setFlags_keeps _ _))).runs rfl
      ((exec_aluInstr hop x s).trans (aluA_eq ..)) (srcTotal_mem x)

theorem runs_ofInc8 (r : R8) : Runs (.ofInc8 r) s :=
  ((readR8_keeps s r).trans ((writeR8_keeps _ r _).trans (setFlags_keeps _ _))).runs rfl
    ((exec_ofInc8 r s).trans (incR8_eq ..)) (r8Total_mem r (by decide) (by decide))

theorem runs_ofDec8 (r : R8) : Runs (.ofDec8 r) s :=
  ((readR8_keeps s r).trans ((writeR8_keeps _ r _).trans (setFlags_keeps _ _))).runs rfl
    ((exec_ofDec8 r s).trans (decR8_eq ..)) (r8Total_mem r (by decide) (by decide))

theorem runs_ofJp (cc : Cc) (a16 : Word) : Runs (.ofJp cc a16) s :=
  (jump_keeps s _).runs rfl ((exec_ofJp cc a16 s).trans (branch_jump_eq ..)) (by split <;> decide)

theorem runs_ofJr (cc : Cc) (e8 : Byte) : Runs (.ofJr cc e8) s :=
  (jump_keeps s _).runs rfl ((exec_ofJr cc e8 s).trans (branch_jump_eq ..)) (by split <;> decide)

/-- A conditional transfer that may write SP, where it is taken. -/
theorem runs_of_branch {i : Instr} {cc : Cc} {taken : State} {totalTaken totalNot : Nat}
    (hkeeps : Keeps true s taken) (hsp : i.writesSp = true)
    (hexec : exec i s = branch cc taken totalTaken totalNot s) (htaken : totalTaken ∈ tableCounts)
    (hnot : totalNot ∈ tableCounts) : Runs i s := by
  cases hcc : s.holds cc with
  | true => exact hkeeps.runs hsp (hexec.trans (branch_of_holds hcc ..)) htaken
  | false => exact (keeps_refl s).runs rfl (hexec.trans (branch_of_not_holds hcc ..)) hnot

theorem runs_ofCall (cc : Cc) (a16 : Word) : Runs (.ofCall cc a16) s := by
  have hsp : (Instr.ofCall cc a16).writesSp = true := by cases cc <;> rfl
  exact runs_of_branch s (call_keeps s a16) hsp (exec_ofCall cc a16 s) (by decide) (by decide)

theorem runs_ofRet (cc : Cc) : Runs (.ofRet cc) s := by
  have hsp : (Instr.ofRet cc).writesSp = true := by cases cc <;> rfl
  exact runs_of_branch s (ret_keeps s) hsp (exec_ofRet cc s) (by decide) (by decide)

theorem runs_ofRst (t : Fin 8) : Runs (.ofRst t) s := by
  have hsp : (Instr.ofRst t).writesSp = true := by fin_cases t <;> rfl
  exact (call_keeps s _).runs hsp (exec_ofRst t s) (by decide)

theorem runs_ofPush (p : R16Stk) : Runs (.ofPush p) s := by
  have hsp : (Instr.ofPush p).writesSp = true := by cases p <;> rfl
  exact (push16_keeps s _).runs hsp (exec_ofPush p s) (by decide)

theorem runs_ofPop (p : R16Stk) : Runs (.ofPop p) s := by
  have hsp : (Instr.ofPop p).writesSp = true := by cases p <;> rfl
  exact ((pop16_keeps s).trans (set16_keeps _ _ _)).runs hsp ((exec_ofPop p s).trans (popR16_eq ..)) (by decide)

theorem runs_ofRot (op : RotOp) (r : R8) : Runs (.ofRot op r) s :=
  ((readR8_keeps s r).trans ((writeR8_keeps _ r _).trans (setFlags_keeps _ _))).runs rfl
    ((exec_ofRot op r s).trans (rotR8_eq ..)) (r8Total_mem r (by decide) (by decide))

theorem runs_ofBit (b : Fin 8) (r : R8) : Runs (.ofBit b r) s :=
  ((readR8_keeps s r).trans (setFlags_keeps _ _)).runs rfl
    ((exec_ofBit b r s).trans (testBitR8_eq ..)) (r8Total_mem r (by decide) (by decide))

theorem runs_ofRes (b : Fin 8) (r : R8) : Runs (.ofRes b r) s :=
  ((readR8_keeps s r).trans (writeR8_keeps _ r _)).runs rfl
    ((exec_ofRes b r s).trans (resBitR8_eq ..)) (r8Total_mem r (by decide) (by decide))

theorem runs_ofSet (b : Fin 8) (r : R8) : Runs (.ofSet b r) s :=
  ((readR8_keeps s r).trans (writeR8_keeps _ r _)).runs rfl
    ((exec_ofSet b r s).trans (setBitR8_eq ..)) (r8Total_mem r (by decide) (by decide))

/-! ## The maps -/

theorem runs_decodeCb (op2 : Byte) : Runs (decodeCb op2) s := by
  unfold decodeCb
  split
  · exact runs_ofRot s _ _
  · exact runs_ofBit s _ _
  · exact runs_ofRes s _ _
  · exact runs_ofSet s _ _

theorem runs_decodeX0 (op b1 : Byte) (n16 : Word) : Runs (decodeX0 op b1 n16) s := by
  simp only [decodeX0]
  split
  case h_1 =>
    split
    case h_1 => exact (keeps_refl s).runs rfl rfl (by decide)
    case h_2 => exact ((memWrite_keeps s _ _).trans (memWrite_keeps _ _ _)).runs rfl rfl (by decide)
    case h_3 => exact runs_of_control rfl rfl rfl rfl (.stop (Effect.refl _).control)
    case h_4 => exact (jump_keeps s _).runs rfl rfl (by decide)
    case h_5 => exact runs_ofJr s _ _
  case h_2 =>
    split
    · exact runs_ofLd16 s _ _
    · exact runs_ofAddHl s _
  case h_3 =>
    split
    · exact runs_ofStoreA s _
    · exact runs_ofLoadA s _
  case h_4 =>
    split
    · exact runs_ofInc16 s _
    · exact runs_ofDec16 s _
  case h_5 => exact runs_ofInc8 s _
  case h_6 => exact runs_ofDec8 s _
  case h_7 => exact runs_ofLdImm s _ _
  case h_8 =>
    split
    case h_7 | h_8 => exact (setFlags_keeps s _).runs rfl rfl (by decide)
    all_goals exact ((set8_keeps s .a _).trans (setFlags_keeps _ _)).runs rfl rfl (by decide)

theorem runs_decodeX3 (op b1 : Byte) (n16 : Word) :
    (decodeX3 op b1 n16).undefinedByte = none → Runs (decodeX3 op b1 n16) s := by
  simp only [decodeX3]
  split
  case h_1 =>
    split
    case h_1 => exact fun _ => (memWrite_keeps s _ _).runs rfl rfl (by decide)
    case h_2 => exact fun _ => ((setSp_keeps s _).trans (setFlags_keeps _ _)).runs rfl rfl (by decide)
    case h_3 => exact fun _ => ((memRead_keeps s _).trans (set8_keeps _ .a _)).runs rfl rfl (by decide)
    case h_4 => exact fun _ => ((set16_keeps s .hl _).trans (setFlags_keeps _ _)).runs rfl rfl (by decide)
    case h_5 => exact fun _ => runs_ofRet s _
  case h_2 =>
    split
    · exact fun _ => runs_ofPop s _
    · split
      case h_1 => exact fun _ => (ret_keeps s).runs rfl rfl (by decide)
      case h_2 =>
        have hret := ret_keeps s
        exact fun _ => ⟨_, rfl, hret.memory, hret.flagsLow, .reti (setIme_ret_effect s true).control, nofun,
          (by decide : 16 ∈ tableCounts)⟩
      case h_3 => exact fun _ => (jump_keeps s _).runs rfl rfl (by decide)
      case h_4 => exact fun _ => (setSp_keeps s _).runs rfl rfl (by decide)
  case h_3 =>
    split
    case h_1 | h_2 => exact fun _ => (memWrite_keeps s _ _).runs rfl rfl (by decide)
    case h_3 | h_4 => exact fun _ => ((memRead_keeps s _).trans (set8_keeps _ .a _)).runs rfl rfl (by decide)
    case h_5 => exact fun _ => runs_ofJp s _ _
  case h_4 =>
    split
    case h_1 => exact fun _ => (jump_keeps s _).runs rfl rfl (by decide)
    case h_2 => exact fun _ => runs_decodeCb s _
    case h_7 => exact fun _ => runs_of_control rfl rfl rfl rfl (.di (Effect.refl _).control)
    case h_8 => exact fun _ => runs_of_control rfl rfl rfl rfl (.ei (Effect.refl _).control)
    all_goals nofun
  case h_5 =>
    split
    case h_5 => exact fun _ => runs_ofCall s _ _
    all_goals nofun
  case h_6 =>
    split
    · exact fun _ => runs_ofPush s _
    · split
      case h_1 => exact fun _ => (call_keeps s _).runs rfl rfl (by decide)
      all_goals nofun
  case h_7 => exact fun _ => runs_aluInstr s _ (.n8 b1)
  case h_8 => exact fun _ => runs_ofRst s _

end

/-- The 500 instructions are the terms that are no marker. -/
theorem wellFormed_iff {i : Instr} : i.wellFormed = true ↔ i.undefinedByte = none ∧ i ≠ .prefix_cb := by
  rw [Ne, ← isPrefix_iff]
  unfold Instr.wellFormed Instr.illFormed
  cases i.undefinedByte with
  | some op => simp
  | none => cases i.isPrefix <;> simp

/-- One of the 500 instructions completes on every state (SPEC.md, Stops): it stands in a slot of the maps. -/
theorem runs_of_wellFormed {i : Instr} (h : i.wellFormed = true) (s : State) : Runs i s := by
  obtain ⟨hdefined, hcb⟩ := wellFormed_iff.1 h
  obtain ⟨op, b1, b2, rfl⟩ := exists_decodeInstr_eq hcb
  simp only [decodeInstr] at hdefined ⊢
  split
  · exact runs_decodeX0 s _ _ _
  · exact runs_ofLd s _ _
  · exact runs_aluInstr s _ (.r8 _)
  · exact runs_decodeX3 s _ _ _ (by simpa [*] using hdefined)

/-- An instruction has one next state. -/
theorem Runs.ran {i : Instr} {s t : State} (h : Runs i s) (hexec : exec i s = .next t) : Ran i s t := by
  obtain ⟨u, hu, hran⟩ := h
  obtain rfl := Host.Outcome.next.inj (hu.symm.trans hexec)
  exact hran

/-! ## The marker of a lone 0xCB, and which instructions write SP -/

/-- R285: the marker is the CB instruction of the byte it reads. -/
theorem exec_prefix_cb_eq (s : State) :
    exec .prefix_cb s =
      exec (decodeCb (s.answer 0 s.pc))
        { s with pc := s.pc + 1, answers := s.answers.drop 1, bus := s.bus ++ [.read s.pc (s.answer 0 s.pc)] } :=
  execCbTable_eq _ _

/-- Settles O60: every CB instruction completes. -/
theorem prefixRunsTheCbInstruction : Obligations.PrefixRunsTheCbInstruction := by
  intro s
  obtain ⟨t, hexec, -⟩ := runs_decodeCb { s with
    pc := s.pc + 1, answers := s.answers.drop 1, bus := s.bus ++ [.read s.pc (s.answer 0 s.pc)] } (s.answer 0 s.pc)
  exact ⟨fun _ => rfl, exec_prefix_cb_eq s, t, (exec_prefix_cb_eq s).trans hexec⟩

/-- Settles O13: an undefined marker writes no register, that of a lone 0xCB runs a CB instruction, and every other term
is one of the 500. -/
theorem onlyTheseInstructionsWriteSp : Obligations.OnlyTheseInstructionsWriteSp := by
  intro i s t hexec hsp
  by_contra hwrites
  rw [Bool.not_eq_true] at hwrites
  refine hsp ?_
  match hundef : i.undefinedByte with
  | some op =>
    obtain ⟨-, -, hmarker⟩ := undefinedByte_spec hundef
    obtain rfl := Host.Outcome.next.inj ((hmarker s).symm.trans hexec)
    rfl
  | none =>
    by_cases hcb : i = .prefix_cb
    · subst hcb
      have hcbSp : ∀ op2 : Byte, (decodeCb op2).writesSp = false := by decide
      exact ((runs_decodeCb _ _).ran ((exec_prefix_cb_eq s).symm.trans hexec)).sp (hcbSp _)
    · exact ((runs_of_wellFormed (wellFormed_iff.2 ⟨hundef, hcb⟩) s).ran hexec).sp hwrites

end Sys2Proof.Machine
end

section
/-! The Step (60_exceptions.md): the instruction it runs as seen from outside, what a Step can do, said once, and the
claims about every Step. -/

namespace Sys2Proof.Machine

/-! ## The Steps that run no instruction (R300 steps 2 to 5) -/

section

variable {s : State}

theorem step_of_locked {e : CoreError} (h : s.locked = some e) : step s = .fault (.locked e) := by rw [step, h]

theorem step_of_stopped (hlocked : s.locked = none) (h : s.stopped = true) : step s = .next s.start.stoppedStep := by
  rw [step, hlocked]
  exact if_pos h

theorem step_of_halted (hlocked : s.locked = none) (hstopped : s.stopped = false) (h : s.halted = true) :
    step s = .next s.start.haltedStep := by
  rw [step, hlocked]
  exact (if_neg (ne_true_of_eq_false hstopped)).trans (if_pos h)

theorem step_of_active (hlocked : s.locked = none) (hstopped : s.stopped = false) (hhalted : s.halted = false) :
    step s = match s.ime, lowestRequest s.input.irq with
      | true, some n => .next (s.start.interruptEntry n)
      | _, _ => s.start.runInstruction := by
  rw [step, hlocked]
  exact (if_neg (ne_true_of_eq_false hstopped)).trans (if_neg (ne_true_of_eq_false hhalted))

theorem step_of_request (hlocked : s.locked = none) (hstopped : s.stopped = false) (hhalted : s.halted = false)
    (hime : s.ime = true) {n : Interrupt} (hn : lowestRequest s.input.irq = some n) :
    step s = .next (s.start.interruptEntry n) := by
  rw [step_of_active hlocked hstopped hhalted, hime, hn]

/-- A Step that enters no interrupt goes on to the fetch. -/
theorem step_of_runsInstruction (h : s.RunsInstruction) : step s = s.start.runInstruction := by
  obtain ⟨hlocked, hstopped, hhalted, hentry⟩ := h
  rw [step_of_active hlocked hstopped hhalted]
  split
  · rename_i n hime hn
    have hirq : s.input.irq = 0 := by_contra fun hirq => hentry ⟨hime, hirq⟩
    rw [(lowestRequest_none _).2 hirq] at hn
    cases hn
  · rfl

end

/-! ## The instruction a Step runs -/

/-- Fetching gives the instruction that the bytes of the instruction stream hold, read or not. -/
theorem fetch_eq (s : State) :
    s.fetch =
      (decodeInstr (s.answer 0 s.pc) (s.answer 1 s.operandPc) (s.answer 2 (s.operandPc + 1)),
        s.fetched (operandBytes (s.answer 0 s.pc))) := by
  have hle := operandBytes_le (s.answer 0 s.pc)
  have hread : [s.operand1 (operandBytes (s.answer 0 s.pc)), s.operand2 (operandBytes (s.answer 0 s.pc))].take
        (operandBytes (s.answer 0 s.pc)) =
      [s.answer 1 s.operandPc, s.answer 2 (s.operandPc + 1)].take (operandBytes (s.answer 0 s.pc)) := by
    generalize operandBytes (s.answer 0 s.pc) = n at hle
    interval_cases n <;> rfl
  rw [fetch_spec, decodeInstr_congr hread]

theorem decode_codeBytes {s : State} {sl : StopLength} {i : Instr} {rest : List Byte}
    (h : decode sl s.codeBytes = .ok (i, rest)) :
    s.fetch = (i, s.fetched (operandBytes (s.answer 0 s.pc))) := by
  rw [State.codeBytes, decode_cons_cons_cons] at h
  rw [fetch_eq, (Prod.mk.inj (Except.ok.inj h)).1]

theorem runInstruction_of_wellFormed {s t : State} {i : Instr} {rest : List Byte} {sl : StopLength}
    (hdecode : decode sl s.codeBytes = .ok (i, rest)) (hwf : i.wellFormed = true)
    (hexec : exec i (s.fetched (operandBytes (s.answer 0 s.pc))) = .next t) :
    s.runInstruction = .next (t.commitEi s.imePending) := by
  have hdefined : i.isUndefined = false := by rw [Instr.isUndefined, (wellFormed_iff.1 hwf).1]; rfl
  simp only [State.runInstruction, decode_codeBytes hdecode, hdefined, Bool.false_eq_true, if_false, hexec, mapNext]

/-- Settles O6: the fetch gives the instruction that the bytes hold, and an instruction ends in the EI commit. -/
theorem stepRunsTheDecodedInstruction : Obligations.StepRunsTheDecodedInstruction := by
  intro s t i rest hruns hdecode hwf hexec
  rw [step_of_runsInstruction hruns, runInstruction_of_wellFormed hdecode hwf hexec]
  simp only [State.commitEi, Bool.and_eq_true]
  rfl

/-- The state an undefined opcode leaves (R310): that of after the Step's start, with the opcode read and the error
saved. -/
def State.undefinedStep (s : State) (op : Byte) : State :=
  { s with
    answers := s.answers.drop 1, bus := s.bus ++ [.read s.pc op], locked := some (.undefinedOpcode op s.pc) }

theorem runInstruction_of_undefined {s : State} (h : s.answer 0 s.pc ∈ undefinedOpcodes) :
    s.runInstruction = .next (s.undefinedStep (s.answer 0 s.pc)) := by
  have hlength : ∀ op ∈ undefinedOpcodes, operandBytes op = 0 := by decide
  have hmarker : (decodeInstr (s.answer 0 s.pc) (s.answer 1 s.operandPc) (s.answer 2 (s.operandPc + 1))).undefinedByte =
      some (s.answer 0 s.pc) := by
    rw [undefinedByte_decodeInstr, if_pos h]
  obtain ⟨-, -, hexec⟩ := undefinedByte_spec hmarker
  simp only [State.runInstruction, fetch_eq, Instr.isUndefined, hmarker, Option.isSome_some, if_true, hexec,
    hlength _ h]
  rfl

/-- Settles O7: the Step is the fetch of a marker, which is run on the state of before it. -/
theorem undefinedOpcodeLocksTheCore : Obligations.UndefinedOpcodeLocksTheCore := by
  rintro s op hruns rfl hop
  refine ⟨_, (step_of_runsInstruction hruns).trans (runInstruction_of_undefined hop), rfl, rfl, fun r => ?_, rfl, rfl,
    rfl, rfl, rfl, rfl, rfl, fun _ => rfl, rfl⟩
  cases r <;> rfl

/-! ## What a Step can do -/

/-- The next states of a core that is not locked (R300, R314). -/
inductive StepCase (s : State) : State → Prop
  | stopped (h : s.stopped = true) : StepCase s s.start.stoppedStep
  | halted (hstopped : s.stopped = false) (h : s.halted = true) : StepCase s s.start.haltedStep
  | interrupt (n : Interrupt) (hstopped : s.stopped = false) (hhalted : s.halted = false) (hime : s.ime = true)
      (hn : lowestRequest s.input.irq = some n) : StepCase s (s.start.interruptEntry n)
  | undefined (hruns : s.RunsInstruction) (h : s.start.answer 0 s.start.pc ∈ undefinedOpcodes) :
      StepCase s (s.start.undefinedStep (s.start.answer 0 s.start.pc))
  | ran (n : Nat) {i : Instr} {rest : List Byte} {t : State} (hruns : s.RunsInstruction)
      (hdecode : decode s.stopLength s.start.codeBytes = .ok (i, rest)) (hran : Ran i (s.start.fetched n) t) :
      StepCase s (t.commitEi s.imePending)

theorem exists_stepCase_of_runsInstruction {s : State} (h : s.RunsInstruction) :
    ∃ t, step s = .next t ∧ StepCase s t := by
  rw [step_of_runsInstruction h]
  by_cases hop : s.start.answer 0 s.start.pc ∈ undefinedOpcodes
  · exact ⟨_, runInstruction_of_undefined hop, .undefined h hop⟩
  · obtain ⟨i, rest, hdecode, hcb, hundef⟩ := everyOpcodeByteDecodes s.stopLength (s.start.answer 0 s.start.pc)
      (s.start.answer 1 s.start.operandPc) (s.start.answer 2 (s.start.operandPc + 1)) []
    rw [if_neg hop] at hundef
    have hwf : i.wellFormed = true := wellFormed_iff.2 ⟨hundef, fun h => by simp [isPrefix_iff.2 h] at hcb⟩
    obtain ⟨t, hexec, hran⟩ := runs_of_wellFormed hwf (s.start.fetched (operandBytes (s.start.answer 0 s.start.pc)))
    exact ⟨_, runInstruction_of_wellFormed hdecode hwf hexec, .ran _ h hdecode hran⟩

theorem exists_stepCase {s : State} (hlocked : s.locked = none) : ∃ t, step s = .next t ∧ StepCase s t := by
  cases hstopped : s.stopped with
  | true => exact ⟨_, step_of_stopped hlocked hstopped, .stopped hstopped⟩
  | false =>
    cases hhalted : s.halted with
    | true => exact ⟨_, step_of_halted hlocked hstopped hhalted, .halted hstopped hhalted⟩
    | false =>
      by_cases hentry : s.ime = true ∧ s.input.irq ≠ 0
      · obtain ⟨n, hn⟩ := Option.ne_none_iff_exists'.1 ((lowestRequest_none _).not.2 hentry.2)
        exact ⟨_, step_of_request hlocked hstopped hhalted hentry.1 hn, .interrupt n hstopped hhalted hentry.1 hn⟩
      · exact exists_stepCase_of_runsInstruction ⟨hlocked, hstopped, hhalted, hentry⟩

/-- A Step that answers a next state is of an unlocked core, and is one of the cases. -/
theorem stepCase_of_step {s t : State} (h : step s = .next t) : s.locked = none ∧ StepCase s t := by
  cases hlocked : s.locked with
  | some e => cases (step_of_locked hlocked).symm.trans h
  | none =>
    obtain ⟨u, hu, hcase⟩ := exists_stepCase hlocked
    obtain rfl := Host.Outcome.next.inj (hu.symm.trans h)
    exact ⟨rfl, hcase⟩

/-! ## The claims about a Step -/

/-- Settles O8: a locked core answers at once, and what an unlocked one does is one of the cases, each with a next
state. -/
theorem stepStopsOnlyWhenLocked : Obligations.StepStopsOnlyWhenLocked := fun _ =>
  ⟨fun hlocked => (exists_stepCase hlocked).imp fun _ h => h.1, fun _ => step_of_locked⟩

/-- Settles O9: the Step is interrupt entry, which is Push16 of the return address and writes of its own. -/
theorem interruptEntryPushesAndVectors : Obligations.InterruptEntryPushesAndVectors := by
  intro s n hlocked hstopped hhalted hime hbit hlower
  have hstep := step_of_request hlocked hstopped hhalted hime ((lowestRequest_spec _ n).2 ⟨hbit, hlower⟩)
  let s1 : State := { s.start with ime := false, imePending := false, haltBug := false }
  let ret := if s.haltBug then s.pc - 1 else s.pc
  obtain ⟨hsp, hhigh, hlow, hmem, hregs, hf, -, -, hcalls, -⟩ := push16_spec s1 ret
  have hvector : n.vector.toNat = 0x0040 + 8 * n.number := by cases n <;> rfl
  have hresult : (s.start.interruptEntry n).result = .ok 20 := by
    have hl : (s.start.interruptEntry n).locked = none := hlocked
    rw [State.result, hl]
    rfl
  exact ⟨_, hstep, hvector, hsp, ⟨hhigh, hlow, hcalls⟩, rfl, rfl, rfl, rfl, hresult, hhalted, hstopped,
    hregs, flagsKept_of_f_eq hf _, hmem⟩

/-- Settles O10: the Step is the idle or the wake Step, stopped looked at first. -/
theorem idleStepsWakeOrWait : Obligations.IdleStepsWakeOrWait := by
  intro s hlocked
  have hresult {t : State} (h : t.locked = s.locked) : t.result = .ok t.cycles := by
    rw [State.result, h, hlocked]
  refine ⟨fun hstopped => ⟨_, step_of_stopped hlocked hstopped, ?_, rfl, hresult rfl, rfl, rfl, rfl, rfl, rfl,
    (Effect.refl _).onlyRegsChange rfl rfl⟩, fun hstopped hhalted => ⟨_, step_of_halted hlocked hstopped hhalted, ?_,
    hresult rfl, rfl, rfl, rfl, rfl, rfl, (Effect.refl _).onlyRegsChange rfl rfl⟩⟩
  · show (if s.input.wake then false else s.stopped) = !s.input.wake
    cases s.input.wake with
    | true => rfl
    | false => exact hstopped
  · show (if s.input.irq ≠ 0 then false else s.halted) = decide (s.input.irq = 0)
    by_cases hirq : s.input.irq = 0 <;> simp [hirq, hhalted]

/-! ## The enable of EI, and IME -/

/-- The EI commit (R321): IME is set and none pending, where an enable was pending and still is. -/
theorem commitEi_of_pending {t : State} (h : t.imePending = true) :
    t.commitEi true = { t with ime := true, imePending := false } := if_pos h

theorem commitEi_false (t : State) : t.commitEi false = t := rfl

theorem commitEi_of_not_pending {t : State} (h : t.imePending = false) (pend : Bool) : t.commitEi pend = t := by
  rw [State.commitEi, h, Bool.and_false, if_neg Bool.false_ne_true]

/-- The EI commit writes IME and ime_pending alone. -/
theorem commitEi_cases (t : State) (pend : Bool) :
    t.commitEi pend = t ∨ pend = true ∧ t.commitEi pend = { t with ime := true, imePending := false } := by
  cases pend with
  | false => exact .inl (commitEi_false t)
  | true =>
    cases h : t.imePending with
    | false => exact .inl (commitEi_of_not_pending h true)
    | true => exact .inr ⟨rfl, commitEi_of_pending h⟩

namespace ControlChange

variable {i : Instr} {s t : State}

/-- No instruction but DI ends a pending enable. -/
theorem imePending (h : ControlChange s t i) (hi : i ≠ .di) (hs : s.imePending = true) : t.imePending = true := by
  cases h with
  | di => exact absurd rfl hi
  | ei h =>
    obtain ⟨-, hpend, -⟩ := h
    exact hpend
  | kept h | reti h | halt h | haltBug h | stop h =>
    obtain ⟨-, hpend, -⟩ := h
    exact hpend.trans hs

/-- DI and RETI alone write IME (10_state.md R29). -/
theorem ime (h : ControlChange s t i) (hne : t.ime ≠ s.ime) : i = .di ∧ t.ime = false ∨ i = .reti ∧ t.ime = true := by
  cases h with
  | di h => exact .inl ⟨rfl, h.1⟩
  | reti h => exact .inr ⟨rfl, h.1⟩
  | kept h | ei h | halt h | haltBug h | stop h => exact absurd h.1 hne

theorem locked (h : ControlChange s t i) : t.locked = s.locked := by
  cases h with
  | kept h | di h | ei h | reti h | halt h | haltBug h | stop h =>
    obtain ⟨-, -, -, -, -, hlocked, -⟩ := h
    exact hlocked

/-- From a state in none of halted, stopped and the halt bug, an instruction enters at most one. -/
theorem oneIdle (h : ControlChange s t i) (hhalted : s.halted = false) (hstopped : s.stopped = false)
    (hbug : s.haltBug = false) :
    (t.halted = true → t.stopped = false ∧ t.haltBug = false) ∧ (t.stopped = true → t.haltBug = false) := by
  cases h with
  | kept h | di h | ei h | reti h | halt h | haltBug h | stop h =>
    obtain ⟨-, -, hh, hs, hb, -⟩ := h
    simp [hh, hs, hb, hhalted, hstopped, hbug]

end ControlChange

/-- Settles O11: the instruction leaves ime_pending as it says, and the commit acts where one was pending and still
is. -/
theorem eiTakesEffectAfterTheNextInstruction : Obligations.EiTakesEffectAfterTheNextInstruction := by
  intro s i rest hruns hdecode hwf
  obtain ⟨t, hexec, hran⟩ := runs_of_wellFormed hwf (s.start.fetched (operandBytes (s.start.answer 0 s.pc)))
  refine ⟨_, (step_of_runsInstruction hruns).trans (runInstruction_of_wellFormed hdecode hwf hexec), ?ei, ?next, ?di⟩
  case ei =>
    rintro rfl hpend
    obtain rfl := Host.Outcome.next.inj hexec
    have hstart : s.start.imePending = false := hpend
    rw [hstart, commitEi_false]
    exact ⟨rfl, rfl⟩
  case next =>
    intro hpend hdi
    have hstart : s.start.imePending = true := hpend
    rw [hstart, commitEi_of_pending (hran.control.imePending hdi hstart)]
    exact ⟨rfl, rfl⟩
  case di =>
    rintro rfl
    obtain rfl := Host.Outcome.next.inj hexec
    rw [commitEi_of_not_pending rfl]
    exact ⟨rfl, rfl⟩

/-- Settles O12: by the cases of a Step; where it runs an instruction, that is DI or RETI, or the commit set IME. -/
theorem onlyTheseStepsWriteIme : Obligations.OnlyTheseStepsWriteIme := by
  intro s t hstep hne
  obtain ⟨-, hcase⟩ := stepCase_of_step hstep
  cases hcase with
  | stopped | halted | undefined => exact absurd rfl hne
  | interrupt n => exact .inl ⟨Option.some_ne_none n, rfl⟩
  | @ran n i rest t hruns hdecode hran =>
    rcases commitEi_cases t s.imePending with hsame | ⟨hpend, hcommit⟩
    · rw [hsame] at hne ⊢
      rcases hran.control.ime hne with ⟨rfl, hime⟩ | ⟨rfl, hime⟩
      · exact .inr (.inl ⟨rest, hdecode, hime⟩)
      · exact .inr (.inr (.inl ⟨rest, hdecode, hime⟩))
    · rw [hcommit]
      exact .inr (.inr (.inr ⟨hpend, rfl, rfl⟩))

/-! ## Counts -/

theorem mem_tableCounts_iff {n : Nat} : n ∈ tableCounts ↔ 0 < n ∧ n % 4 = 0 ∧ n ≤ 24 := by
  simp only [tableCounts, List.mem_cons, List.not_mem_nil, or_false]
  omega

/-- A Step that returns a count returns one of R348's table. -/
theorem StepCase.count {s t : State} (h : StepCase s t) (hlocked : t.locked = none) : t.cycles ∈ tableCounts := by
  cases h with
  | stopped | halted => exact four_mem
  | interrupt n => exact (by decide : 20 ∈ tableCounts)
  | undefined => cases hlocked
  | @ran n i rest t hruns hdecode hran =>
    rcases commitEi_cases t s.imePending with hsame | ⟨-, hcommit⟩
    · rw [hsame]
      exact hran.count
    · rw [hcommit]
      exact hran.count

/-- Settles O14: by the cases of a Step, each with a count of the table. -/
theorem countsArePositiveMultiplesOfFour : Obligations.CountsArePositiveMultiplesOfFour := by
  intro s t hstep k hk
  obtain ⟨-, hcase⟩ := stepCase_of_step hstep
  unfold State.result at hk
  split at hk
  · cases hk
  · rename_i hlocked
    obtain rfl := Except.ok.inj hk
    exact mem_tableCounts_iff.1 (hcase.count hlocked)

/-- Settles O15: the Step's start overwrites every one of these fields before anything reads it. -/
theorem outputsOfTheStepBeforeDoNotMatter : Obligations.OutputsOfTheStepBeforeDoNotMatter := fun _ _ _ _ _ _ _ => rfl

/-! ## The invariant -/

/-- The Step's start keeps the invariant: the platform's changes are writes. -/
theorem State.Inv.start {s : State} (h : s.Inv) : s.start.Inv where
  memory := Memory.wf_writeAll _ h.memory
  flagsLow := h.flagsLow
  oneIdle := h.oneIdle
  savedError := h.savedError
  count := rfl

theorem State.Inv.commitEi {s : State} (h : s.Inv) (pend : Bool) : (s.commitEi pend).Inv := by
  rcases commitEi_cases s pend with hsame | ⟨-, hcommit⟩
  · rwa [hsame]
  · rw [hcommit]
    exact ⟨h.memory, h.flagsLow, h.oneIdle, h.savedError, h.count⟩

/-- Interrupt entry writes IME, ime_pending, the halt bug and `ack`, and no other field of the control state (R303). -/
theorem interruptEntry_control (s : State) (n : Interrupt) :
    ControlKept { s with ime := false, imePending := false, haltBug := false, ack := some n } (s.interruptEntry n) :=
  ⟨rfl, rfl, rfl, rfl, rfl, rfl, rfl, rfl, rfl, rfl, rfl⟩

theorem interruptEntry_wf (s : State) (n : Interrupt) (h : s.mem.wf = true) : (s.interruptEntry n).mem.wf = true :=
  push16_wf { s with ime := false, imePending := false, haltBug := false } (if s.haltBug then s.pc - 1 else s.pc) h

/-- Settles O16: the Step's start keeps the invariant, and then so does each case of a Step. -/
theorem everyStepKeepsTheInvariant : Obligations.EveryStepKeepsTheInvariant := by
  intro s t hinv hstep
  obtain ⟨hlocked, hcase⟩ := stepCase_of_step hstep
  obtain ⟨hmem, hflags, ⟨hhalt, hstop⟩, -, -⟩ := hinv.start
  have hno {u : State} (hu : u.locked = s.locked) : ∀ e, u.locked = some e →
      ∃ op ∈ undefinedOpcodes, e = .undefinedOpcode op u.pc := by
    rw [hu, hlocked]
    exact nofun
  cases hcase with
  | stopped h =>
    have hhalted : ¬s.halted = true := fun h' => by
      obtain ⟨hstopped, -⟩ := hhalt h'
      exact ne_true_of_eq_false hstopped h
    exact ⟨hmem, hflags, ⟨fun h' => absurd h' hhalted, fun _ => hstop h⟩, hno rfl, Nat.mod_self 4⟩
  | halted hstopped h => exact ⟨hmem, hflags, ⟨fun _ => hhalt h, hstop⟩, hno rfl, Nat.mod_self 4⟩
  | interrupt n hstopped hhalted =>
    obtain ⟨-, -, -, hs, hb, hl, -⟩ := interruptEntry_control s.start n
    exact ⟨interruptEntry_wf _ n hmem, hflags, ⟨fun _ => ⟨hs.trans hstopped, hb⟩, fun _ => hb⟩, hno hl,
      (by decide : 20 % 4 = 0)⟩
  | undefined hruns hop =>
    exact ⟨hmem, hflags, ⟨hhalt, hstop⟩, fun e he => ⟨_, hop, (Option.some.inj he).symm⟩, Nat.zero_mod 4⟩
  | @ran n i rest t hruns hdecode hran =>
    obtain ⟨-, hstopped, hhalted, -⟩ := hruns
    obtain ⟨-, hcount, -⟩ := mem_tableCounts_iff.1 hran.count
    have ht : t.Inv := ⟨hran.memory hmem, hran.flagsLow hflags, hran.control.oneIdle hhalted hstopped rfl,
      hno hran.control.locked, hcount⟩
    exact ht.commitEi _

theorem construct_inv (init : InitialState) (sl : StopLength) : (State.construct init sl).Inv where
  memory := rfl
  flagsLow := by
    show init.f &&& 0xF0 &&& 0x0F = 0
    rw [BitVec.and_assoc]
    exact BitVec.and_zero
  oneIdle := ⟨nofun, nofun⟩
  savedError := nofun
  count := rfl

/-- Settles O17: reset is one of the constructed cores. -/
theorem constructionMeetsTheInvariant : Obligations.ConstructionMeetsTheInvariant :=
  ⟨construct_inv, construct_inv _ _⟩

/-- Settles O18: each field is the one construction gives it. -/
theorem constructionValues : Obligations.ConstructionValues :=
  ⟨fun r => by cases r <;> rfl, rfl, rfl, fun _ _ =>
    ⟨rfl, rfl, rfl, rfl, rfl, rfl, rfl, rfl, rfl, rfl, rfl, rfl, rfl, rfl, rfl, rfl⟩⟩

end Sys2Proof.Machine
end

section
/-! Decimal adjust (42_arithmetic.md R147): the correction as one byte, then the claims in numbers. -/

namespace Sys2Proof.Machine

/-- Whether DAA corrects the high digit, by 0x60. -/
def daaHigh (a : Byte) (old : Flags) : Bool := old.c || (!old.n && decide (a.toNat > 0x99))

/-- Whether DAA corrects the low digit, by 0x06. -/
def daaLow (a : Byte) (old : Flags) : Bool := old.h || (!old.n && decide (a.toNat % 16 > 9))

/-- DAA's correction as a number. -/
def daaCorrection (high low : Bool) : Nat := (if high then 0x60 else 0) + (if low then 0x06 else 0)

theorem daaCorrection_eq (high low : Bool) :
    (daaCorrection high low : Int) = (if high then 0x60 else 0) + (if low then 0x06 else 0) := by
  cases high <;> cases low <;> rfl

/-- The high digit's correction does not reach the low digit. -/
theorem lowNibble_add_0x60 (a : Byte) : lowNibble (a + 0x60#8) = lowNibble a := by
  unfold lowNibble
  bv_omega

theorem daa_of_add (a : Byte) {old : Flags} (hn : old.n = false) :
    (daa a old).value = a + BitVec.ofNat 8 (daaCorrection (daaHigh a old) (daaLow a old)) ∧
    (daa a old).flags.c = daaHigh a old := by
  have hlow : daaLow a old = (old.h || decide (lowNibble a > 9)) := by simp [daaLow, hn, lowNibble]
  have hhigh : daaHigh a old = (old.c || decide (a.toNat > 0x99)) := by simp [daaHigh, hn]
  rw [hlow, hhigh]
  simp only [daa, hn]
  cases hh : (old.c || decide (a.toNat > 0x99)) with
  | true =>
    cases hl : (old.h || decide (lowNibble a > 9)) <;>
      simp [hl, daaCorrection, lowNibble_add_0x60, BitVec.add_assoc]
  | false =>
    obtain ⟨hc, -⟩ := Bool.or_eq_false_iff.1 hh
    cases hl : (old.h || decide (lowNibble a > 9)) <;> simp [hl, hc, daaCorrection]

theorem daa_of_sub (a : Byte) {old : Flags} (hn : old.n = true) :
    (daa a old).value = a - BitVec.ofNat 8 (daaCorrection (daaHigh a old) (daaLow a old)) ∧
    (daa a old).flags.c = daaHigh a old := by
  have hlow : daaLow a old = old.h := by simp [daaLow, hn]
  have hhigh : daaHigh a old = old.c := by simp [daaHigh, hn]
  rw [hlow, hhigh]
  cases hh : old.h <;> cases hc : old.c <;>
    simp [daa, hn, hh, hc, daaCorrection, BitVec.sub_sub]

/-- R147 in numbers, total over every A and every N, H and C (decision D18). -/
theorem daa_spec (a : Byte) (old : Flags) :
    let correction : Int := daaCorrection (daaHigh a old) (daaLow a old)
    ((daa a old).value.toNat : Int) = (if old.n then (a.toNat : Int) - correction else a.toNat + correction) % 256 ∧
    (daa a old).flags.c = daaHigh a old := by
  intro correction
  have hle : daaCorrection (daaHigh a old) (daaLow a old) < 256 := by
    unfold daaCorrection
    split <;> split <;> decide
  cases hn : old.n with
  | true =>
    obtain ⟨hvalue, hc⟩ := daa_of_sub a hn
    refine ⟨?_, hc⟩
    rw [hvalue, toNat_sub_byte, BitVec.toNat_ofNat, Nat.mod_eq_of_lt hle, if_pos rfl]
  | false =>
    obtain ⟨hvalue, hc⟩ := daa_of_add a hn
    refine ⟨?_, hc⟩
    rw [hvalue, BitVec.toNat_add, BitVec.toNat_ofNat, Nat.mod_eq_of_lt hle, if_neg Bool.false_ne_true]
    rfl

/-- DAA writes A, and F with the N it had. -/
theorem exec_daa_spec (s : State) :
    ∃ t, exec .daa s = .next t ∧
      t.get8 .a = (daa (s.get8 .a) s.flags).value ∧ t.flags = (daa (s.get8 .a) s.flags).flags ∧
      OnlyRegsChange [.a] [.z, .h, .c] s t ∧ t.cycles = 4 ∧ Calls [] s t := by
  let r := daa (s.get8 .a) s.flags
  let s1 := s.set8 .a r.value
  have hkept : FlagsKept [.z, .h, .c] s1 (s1.setFlags r.flags) := fun fl hfl => by
    cases fl with
    | n => exact getFlag_setFlags_n s1 r.flags
    | z | h | c => exact absurd (by decide) hfl
  have heffect := ((set8_effect s (r := .a) (by decide) r.value).trans
    (setFlags_effect_of_flagsKept hkept)).withCycles 4
  exact ⟨_, rfl, rfl, flags_setFlags s1 r.flags, heffect.onlyRegsChange rfl rfl, rfl, heffect.calls⟩

/-- Settles O38: A and the flags are those of the model's DAA, which in numbers is the formula of the rule. -/
theorem decimalAdjust : Obligations.DecimalAdjust := by
  intro s a high low by_ res
  obtain ⟨t, hexec, ha, hflags, hframe, hcycles, hcalls⟩ := exec_daa_spec s
  obtain ⟨hvalue, hc⟩ := daa_spec (s.get8 .a) s.flags
  have hover : decide ((s.get8 .a).toNat > 0x99) = decide (a > 0x99) := decide_eq_decide.mpr (by omega)
  have hdigit : decide ((s.get8 .a).toNat % 16 > 9) = decide (a % 16 > 9) := decide_eq_decide.mpr (by omega)
  have hhigh : daaHigh (s.get8 .a) s.flags = high := by
    rw [daaHigh, hover]
    rfl
  have hlow : daaLow (s.get8 .a) s.flags = low := by
    rw [daaLow, hdigit]
    rfl
  have hres : ((t.get8 .a).toNat : Int) = res := by
    rw [ha, hvalue, hhigh, hlow, daaCorrection_eq]
    rfl
  refine ⟨fun _ => rfl, t, hexec, hres, ?zero, congrArg Flags.h hflags,
    (congrArg Flags.c hflags).trans (hc.trans hhigh), hframe, hcycles, hcalls⟩
  case zero =>
    have hz : t.getFlag .z = decide (t.get8 .a = 0) := by rw [ha]; exact congrArg Flags.z hflags
    rw [hz, ← hres]
    simp [BitVec.toNat_eq]

/-! ## Packed BCD -/

theorem toNat_bcd {n : Nat} (h : n < 100) : (bcd n).toNat = 16 * (n / 10) + n % 10 := by
  rw [bcd, BitVec.toNat_ofNat, Nat.mod_eq_of_lt (by omega)]

/-- After ADD of two packed BCD bytes DAA leaves the digits of the sum: each digit is corrected where it has
passed 9. -/
theorem daa_alu_add {x y : Nat} (hx : x < 100) (hy : y < 100) (c : Bool) :
    let r := alu .add (bcd x) (bcd y) c
    (daa r.value r.flags).value = bcd ((x + y) % 100) ∧ (daa r.value r.flags).flags.c = decide (100 ≤ x + y) := by
  intro r
  have hxb := toNat_bcd hx
  have hyb := toNat_bcd hy
  have hn : r.flags.n = false := rfl
  have hsum : r.value.toNat = (16 * (x / 10) + x % 10 + (16 * (y / 10) + y % 10)) % 256 := by
    rw [← hxb, ← hyb]
    exact BitVec.toNat_ofNat _ _
  have hhigh : daaHigh r.value r.flags = decide (100 ≤ x + y) := by
    have hc : r.flags.c = decide ((bcd x).toNat + (bcd y).toNat > 0xFF) := rfl
    rw [daaHigh, hc, hn, hsum, hxb, hyb, Bool.not_false, Bool.true_and, ← Bool.decide_or, decide_eq_decide]
    omega
  have hlow : daaLow r.value r.flags = decide (10 ≤ x % 10 + y % 10) := by
    have hh : r.flags.h = decide ((bcd x).toNat % 16 + (bcd y).toNat % 16 ≥ 0x10) := rfl
    have hdigit : r.value.toNat % 16 = (x % 10 + y % 10) % 16 := by omega
    rw [daaLow, hh, hn, hdigit, hxb, hyb, Bool.not_false, Bool.true_and, ← Bool.decide_or, decide_eq_decide]
    omega
  obtain ⟨hvalue, hc⟩ := daa_spec r.value r.flags
  refine ⟨BitVec.eq_of_toNat_eq ?_, hc.trans hhigh⟩
  simp only [hn, hhigh, hlow, hsum, daaCorrection_eq, Bool.false_eq_true, if_false, decide_eq_true_eq] at hvalue
  rw [toNat_bcd (Nat.mod_lt _ (by decide))]
  split at hvalue <;> split at hvalue <;> omega

/-- After SUB likewise: each digit is corrected where it has borrowed. -/
theorem daa_alu_sub {x y : Nat} (hx : x < 100) (hy : y < 100) (c : Bool) :
    let r := alu .sub (bcd x) (bcd y) c
    (daa r.value r.flags).value = bcd ((x + 100 - y) % 100) ∧ (daa r.value r.flags).flags.c = decide (x < y) := by
  intro r
  have hxb := toNat_bcd hx
  have hyb := toNat_bcd hy
  have hn : r.flags.n = true := rfl
  have hdiff : (r.value.toNat : Int) = ((16 * (x / 10) + x % 10 : Nat) - (16 * (y / 10) + y % 10 : Nat)) % 256 := by
    rw [← hxb, ← hyb]
    exact toNat_sub_byte _ _
  have hhigh : daaHigh r.value r.flags = decide (x < y) := by
    have hc : daaHigh r.value r.flags = decide ((bcd x).toNat < (bcd y).toNat) := Bool.or_false _
    rw [hc, hxb, hyb, decide_eq_decide]
    omega
  have hlow : daaLow r.value r.flags = decide (x % 10 < y % 10) := by
    have hh : daaLow r.value r.flags = decide ((bcd x).toNat % 16 < (bcd y).toNat % 16) := Bool.or_false _
    rw [hh, hxb, hyb, decide_eq_decide]
    omega
  obtain ⟨hvalue, hc⟩ := daa_spec r.value r.flags
  refine ⟨BitVec.eq_of_toNat_eq ?_, hc.trans hhigh⟩
  simp only [hn, hhigh, hlow, hdiff, daaCorrection_eq, if_true, decide_eq_true_eq] at hvalue
  rw [toNat_bcd (Nat.mod_lt _ (by decide))]
  split at hvalue <;> split at hvalue <;> omega

/-- DAA after an ALU instruction corrects the value and the flags that the operation left. -/
theorem exec_aluInstr_daa_spec {op : AluOp} (hop : op ≠ .cp) (x : AluSrc) (s : State) :
    let r := alu op (s.get8 .a) (s.srcValue x) (s.getFlag .c)
    ∃ t u, exec (aluInstr op x) s = .next t ∧ exec .daa t = .next u ∧ u.get8 .a = (daa r.value r.flags).value ∧
      u.getFlag .c = (daa r.value r.flags).flags.c := by
  obtain ⟨t, hexec, ha, hflags, -⟩ := exec_aluInstr_spec hop x s
  obtain ⟨u, hdaa, hua, huflags, -⟩ := exec_daa_spec t
  rw [ha, hflags] at hua huflags
  exact ⟨t, u, hexec, hdaa, hua, congrArg Flags.c huflags⟩

/-- Settles O39: DAA corrects what the ALU operation leaves, and that is the packed BCD result. -/
theorem decimalAdjustCorrectsBcd : Obligations.DecimalAdjustCorrectsBcd := by
  intro x y src s hx hy ha hv
  constructor
  · obtain ⟨t, u, hexec, hdaa, hvalue, hc⟩ := exec_aluInstr_daa_spec (op := .add) (by decide) src s
    obtain ⟨hdigits, hcarry⟩ := daa_alu_add hx hy (s.getFlag .c)
    rw [ha, hv] at hvalue hc
    exact ⟨t, u, hexec, hdaa, hvalue.trans hdigits, hc.trans hcarry⟩
  · obtain ⟨t, u, hexec, hdaa, hvalue, hc⟩ := exec_aluInstr_daa_spec (op := .sub) (by decide) src s
    obtain ⟨hdigits, hborrow⟩ := daa_alu_sub hx hy (s.getFlag .c)
    rw [ha, hv] at hvalue hc
    exact ⟨t, u, hexec, hdaa, hvalue.trans hdigits, hc.trans hborrow⟩

end Sys2Proof.Machine
end
